-- ==== Sys2Proof/Config.lean ====
section
/-! DEFINITION. The parameters of the block (00_scope.md R5, R6): the ones with a default as plain definitions, the
OPEN ones as one opaque record whose type carries their admissibility, and the record types they are made of. -/

namespace Sys2Proof

/-- The five codecs of 10_state.md R31. -/
inductive Codec where
  | dstar | dmr | ysf | p25 | nxdn
  deriving DecidableEq, Repr, Inhabited

/-- The three inversion flags of 10_state.md R31. -/
inductive Inversion where
  | rx | tx | ptt
  deriving DecidableEq, Repr, Inhabited

/-- The two directions that index DC offsets and levels (10_state.md R31). -/
inductive Side where
  | tx | rx
  deriving DecidableEq, Repr, Inhabited

/-- The six checkers, in rising id order (42_fec_ber.md R222, 30_encoding.md R103). -/
inductive CheckerId where
  | dstar | dmr | dmr1031 | ysf | p25 | nxdn
  deriving DecidableEq, Repr, Inhabited

/-- The names of the calibration modes that 10_state.md R32 lists; their values are the OPEN `MODE_CODES`. -/
inductive CalibrationMode where
  | idle
  | calibration (c : Codec)
  | berTest (c : Codec)
  | rssiTest
  | interruptCountTest
  | carrierOnly
  | frequencySweep
  deriving DecidableEq, Repr, Inhabited

/-- A configuration (10_state.md R31). The numeric fields are integers so that the operand of `CMD_SET_CONFIG` can
be out of range (41_codec.md R175); the registers only ever hold valid ones. Levels are in units of
1/`LEVEL_SCALE` percent. -/
structure Cfg where
  enDstar : Bool := false
  enDmr : Bool := false
  enYsf : Bool := false
  enP25 : Bool := false
  enNxdn : Bool := false
  invRx : Bool := false
  invTx : Bool := false
  invPtt : Bool := false
  duplex : Bool := false
  debug : Bool := false
  mode : Int := 0
  dcTx : Int := 0
  dcRx : Int := 0
  levelRx : Int := 0
  levelTx : Int := 0
  deriving DecidableEq, Repr, Inhabited

/-- The ten flag names of 41_codec.md R176. -/
inductive FlagName where
  | en (c : Codec)
  | inv (k : Inversion)
  | duplex
  | debug
  deriving DecidableEq, Repr, Inhabited

/-- The ten flag names as a list (41_codec.md R176). -/
def FlagName.all : List FlagName :=
  [.en .dstar, .en .dmr, .en .ysf, .en .p25, .en .nxdn, .inv .rx, .inv .tx, .inv .ptt, .duplex, .debug]

/-- The value of a flag in a configuration (41_codec.md R176). -/
def Cfg.flag (c : Cfg) : FlagName → Bool
  | .en .dstar => c.enDstar
  | .en .dmr => c.enDmr
  | .en .ysf => c.enYsf
  | .en .p25 => c.enP25
  | .en .nxdn => c.enNxdn
  | .inv .rx => c.invRx
  | .inv .tx => c.invTx
  | .inv .ptt => c.invPtt
  | .duplex => c.duplex
  | .debug => c.debug

/-- `c.dc[k]` (10_state.md R31). -/
def Cfg.dc (c : Cfg) : Side → Int
  | .tx => c.dcTx
  | .rx => c.dcRx

/-- `c.level[k]` (10_state.md R31). -/
def Cfg.level (c : Cfg) : Side → Int
  | .tx => c.levelTx
  | .rx => c.levelRx

/-- `pos` stores true as 1, `neg` stores true as 0 (30_encoding.md R110). -/
inductive Polarity where
  | pos | neg
  deriving DecidableEq, Repr, Inhabited

/-- Where a flag is stored (41_codec.md R176): frame index, bit number, polarity. -/
structure FlagPos where
  off : Nat
  bit : Fin 8
  pol : Polarity
  deriving DecidableEq, Repr, Inhabited

/-- A SET_CONFIG layout descriptor (41_codec.md R176). -/
structure Layout where
  total : Nat
  flag : FlagName → FlagPos
  mode : List Nat
  dc : Side → List Nat
  level : Side → List Nat
  fill : Nat → Byte

/-- Every frame index that one of the layout's byte lists claims, list after list (41_codec.md R176). -/
def Layout.listed (l : Layout) : List Nat :=
  l.mode ++ l.dc .tx ++ l.dc .rx ++ l.level .rx ++ l.level .tx

/-- `wf(layout, n)` of 41_codec.md R176. `Nodup` of the joined lists says that each list is duplicate-free and that
they are pairwise disjoint. -/
abbrev Layout.wf (l : Layout) (n : Nat) : Prop :=
  l.total = n ∧
  (l.mode ≠ [] ∧ l.dc .tx ≠ [] ∧ l.dc .rx ≠ [] ∧ l.level .rx ≠ [] ∧ l.level .tx ≠ []) ∧
  (∀ i ∈ l.listed, 3 ≤ i ∧ i < n) ∧
  (∀ f ∈ FlagName.all, 3 ≤ (l.flag f).off ∧ (l.flag f).off < n) ∧
  (FlagName.all.map (fun f => ((l.flag f).off, (l.flag f).bit))).Nodup ∧
  l.listed.Nodup ∧
  (∀ f ∈ FlagName.all, (l.flag f).off ∉ l.listed)

/-- Flag positions shared by the two illustrative layouts of 41_codec.md R178. -/
def illustrativeFlag : FlagName → FlagPos
  | .inv .rx => ⟨3, 0, .pos⟩
  | .inv .tx => ⟨3, 1, .pos⟩
  | .inv .ptt => ⟨3, 2, .pos⟩
  | .debug => ⟨3, 4, .pos⟩
  | .duplex => ⟨3, 7, .neg⟩
  | .en .dstar => ⟨4, 0, .pos⟩
  | .en .dmr => ⟨4, 1, .pos⟩
  | .en .ysf => ⟨4, 2, .pos⟩
  | .en .p25 => ⟨4, 3, .pos⟩
  | .en .nxdn => ⟨4, 4, .pos⟩

/-- The illustrative version 1 layout of 41_codec.md R178. Only tests use it, and the inhabitant of `OpenParams`. -/
def illustrativeV1 : Layout where
  total := 27
  flag := illustrativeFlag
  mode := [6]
  dc := fun k => match k with | .tx => [16] | .rx => [17]
  level := fun k => match k with | .rx => [7] | .tx => [12, 13, 14, 15, 18]
  fill := fun _ => 0

/-- The illustrative version 2 layout of 41_codec.md R178. -/
def illustrativeV2 : Layout where
  total := 40
  flag := illustrativeFlag
  mode := [7]
  dc := fun k => match k with | .tx => [8] | .rx => [9]
  level := fun k => match k with | .rx => [10] | .tx => [12, 13, 14, 15, 16]
  fill := fun _ => 0

/-- A code block of a checker (42_fec_ber.md R223). Bit vectors are lists of Booleans. -/
structure Block where
  info : List Nat
  check : List Nat
  regen : List Bool → List Bool

/-- A checker descriptor (42_fec_ber.md R223): `st` is a subtype number, `p` a payload. -/
structure CheckerDesc where
  scoreable : Nat → List Byte → Bool
  mask : Nat → Nat → List Byte
  blocks : Nat → List Block
  frameBits : Nat → Nat

/-- The admissibility of a descriptor (42_fec_ber.md R223), with the typings of its components. -/
structure CheckerDesc.Admissible (d : CheckerDesc) : Prop where
  mask_length : ∀ st n, (d.mask st n).length = n
  check_nonempty : ∀ st, ∀ b ∈ d.blocks st, 1 ≤ b.check.length
  regen_length : ∀ st, ∀ b ∈ d.blocks st, ∀ x, x.length = b.info.length → (b.regen x).length = b.check.length
  in_payload : ∀ st p, d.scoreable st p = true → ∀ b ∈ d.blocks st, ∀ i ∈ b.info ++ b.check, i < 8 * p.length
  enough_bits : ∀ st p, d.scoreable st p = true → ((d.blocks st).map (fun b => b.check.length)).sum ≤ d.frameBits st
  some_bits : ∀ st, 1 ≤ d.frameBits st

/-- A descriptor that scores nothing: the inhabitant of the OPEN `CHECKER_DESC`, assumed of no checker. -/
def emptyDesc : CheckerDesc where
  scoreable := fun _ _ => false
  mask := fun _ n => List.replicate n 0
  blocks := fun _ => []
  frameBits := fun _ => 1

namespace Config

/-! Parameters with a default (00_scope.md R5), each at its default. DESIGN CHOICE, unsafe, log 7. -/

def startMarker : Byte := 0xE0
def maxShortLen : Nat := 250
def minFrameLen : Nat := 3
def extLenEscape : Nat := 0
def minExtLen : Nat := 5
def maxExtLen : Nat := 65535
def bufBytes : Nat := maxExtLen
def tagGetVersion : Byte := 0x00
def tagGetStatus : Byte := 0x01
def tagSetConfig : Byte := 0x02
def tagSetFreq : Byte := 0x04
def tagAck : Byte := 0x70
def tagNak : Byte := 0x7F
def codecTagLo : Byte := 0x10
def codecTagHi : Byte := 0x5F
def debugTagLo : Byte := 0xF1
def debugTagHi : Byte := 0xF5
def cfgLenV1 : Nat := 27
def cfgLenV2 : Nat := 40
def freqLen : Nat := 13
def ackMaxTries : Nat := 30
def levelScale : Int := 1
def versionByteOffset : Nat := 3
def descOffsetV1 : Nat := 4
def descOffsetV2 : Nat := 23
/-- `HOTSPOT_PREFIXES`: the set whose one string is "ZUMspot", in ASCII (00_scope.md R5, 41_codec.md R187). -/
def hotspotPrefixes : List (List Byte) := [[0x5A, 0x55, 0x4D, 0x73, 0x70, 0x6F, 0x74]]
/-- `GENERIC_PREFIXES`: the set whose one string is "MMDVM " with its trailing space (00_scope.md R5, 41_codec.md R187). -/
def genericPrefixes : List (List Byte) := [[0x4D, 0x4D, 0x44, 0x56, 0x4D, 0x20]]
def nakReasonOffset : Nat := 4
def cntW : Nat := 32
/-- The greatest value a BER counter holds, `2^CNT_W - 1` (10_state.md R36). -/
def cntMax : Nat := 2 ^ cntW - 1
/-- Host parameter: version requests sent before giving up (44_host_session.md R262). No rule of the block reads it. -/
def versionMaxTries : Nat := 6
/-- Host parameter: sleep between loop iterations in milliseconds (70_reset_and_hazards.md R325). -/
def pollQuantumMs : Nat := 5
/-- Host parameter: iterations between status polls (44_host_session.md R261). -/
def statusPollPeriod : Nat := 200

end Config

/-- `valid_config(c)` of 41_codec.md R175. -/
abbrev Cfg.valid (c : Cfg) : Prop :=
  (-128 ≤ c.dcTx ∧ c.dcTx ≤ 127) ∧ (-128 ≤ c.dcRx ∧ c.dcRx ≤ 127) ∧
  (0 ≤ c.levelRx ∧ c.levelRx ≤ 100 * Config.levelScale) ∧
  (0 ≤ c.levelTx ∧ c.levelTx ≤ 100 * Config.levelScale) ∧
  (0 ≤ c.mode ∧ c.mode ≤ 255)

/-- The OPEN parameters of 00_scope.md R5 with their admissibility conditions (R6, 41_codec.md R176, 42_fec_ber.md
R223, R233). The default values only show that the type has an inhabitant.
DESIGN CHOICE, safe, log 6: beyond admissibility nothing is asked of `checkerDesc`. That the blocks of `DMR1031` have no
information bits and a constant repeating reference (42_fec_ber.md R226) and that `P25` scores voice frames only (R231)
are no conditions of the type: decision D26 leaves all six descriptors OPEN. -/
structure OpenParams where
  layoutV1 : Layout := illustrativeV1
  layoutV1_wf : layoutV1.wf Config.cfgLenV1 := by decide
  layoutV2 : Layout := illustrativeV2
  layoutV2_wf : layoutV2.wf Config.cfgLenV2 := by decide
  /-- `CHECKER_SELECT(mode, tag)`. -/
  checkerSelect : Byte → Byte → Option CheckerId := fun _ _ => none
  checkerSelect_range : ∀ m t, ¬ (Config.codecTagLo ≤ t ∧ t ≤ Config.codecTagHi) → checkerSelect m t = none := by
    intros; rfl
  /-- `SUBTYPE_OF(tag)`. -/
  subtypeOf : Byte → Nat := fun _ => 0
  checkerDesc : CheckerId → CheckerDesc := fun _ => emptyDesc
  checkerDesc_admissible : ∀ id, (checkerDesc id).Admissible := by
    intro _; constructor <;> simp [emptyDesc]
  berTimeoutTicks : Nat := 1
  berTimeoutTicks_pos : 1 ≤ berTimeoutTicks := by decide
  /-- `MODE_CODES`; no rule of the block reads it (10_state.md R32). -/
  modeCode : CalibrationMode → Byte := fun _ => 0
  cfgInit : Cfg := {}
  cfgInit_valid : cfgInit.valid := by decide
  deriving Inhabited

namespace Config

/-- The OPEN parameters: one admissible record, nothing else is known of it (00_scope.md R5).
DESIGN CHOICE, safe, log 6. -/
opaque openParams : OpenParams

/-- `LAYOUT_V1` (41_codec.md R176). -/
def layoutV1 : Layout := openParams.layoutV1
/-- `LAYOUT_V2` (41_codec.md R176). -/
def layoutV2 : Layout := openParams.layoutV2
/-- `CHECKER_SELECT(mode, tag)` (42_fec_ber.md R233). -/
def checkerSelect (mode tag : Byte) : Option CheckerId := openParams.checkerSelect mode tag
/-- `SUBTYPE_OF(tag)` (42_fec_ber.md R233). -/
def subtypeOf (tag : Byte) : Nat := openParams.subtypeOf tag
/-- `CHECKER_DESC[id]` (42_fec_ber.md R223, R228 to R232). -/
def checkerDesc (id : CheckerId) : CheckerDesc := openParams.checkerDesc id
/-- `BER_TIMEOUT_TICKS` (42_fec_ber.md R234, R235). -/
def berTimeoutTicks : Nat := openParams.berTimeoutTicks
/-- `MODE_CODES` (10_state.md R32). -/
def modeCode (m : CalibrationMode) : Byte := openParams.modeCode m
/-- `CFG_INIT` (10_state.md R40). DESIGN CHOICE, safe, log 2. -/
def cfgInit : Cfg := openParams.cfgInit

end Config

end Sys2Proof
end

