-- ==== Sys2Proof/Machine/Wire.lean ====
section
/-! DEFINITION. The wire format of a frame and the view of a whole frame (30_encoding.md R90 to R93, R98, R99). -/

namespace Sys2Proof.Machine

/-- The form flag as a function of the bytes: the frame is extended when its length byte is `EXT_LEN_ESCAPE` (R92). -/
def isExtended (f : List Byte) : Bool :=
  (f[1]?).any (fun b => b.toNat == Config.extLenEscape)

/-- `hdr(f)`: the header is 3 bytes in the short form and 5 in the extended form (R92). -/
def headerLength (f : List Byte) : Nat :=
  if isExtended f then 5 else 3

/-- `tag(f)`: the byte at index 2 in the short form, 4 in the extended form; none when the sequence has no such
byte (R92). -/
def frameTag (f : List Byte) : Option Byte :=
  f[headerLength f - 1]?

/-- `payload(f)`: the bytes after the type tag (R92). -/
def framePayload (f : List Byte) : List Byte :=
  f.drop (headerLength f)

/-- A big-endian 16-bit value: `hi * 256 + lo` (20_memory.md R64, R106). -/
def bigEndian16 (hi lo : Byte) : Nat :=
  hi.toNat * 256 + lo.toNat

/-- The length a frame declares: its second byte, or bytes 2 and 3 big-endian when that byte is `EXT_LEN_ESCAPE`
(the variable-length rule, R98); none while those bytes are not there. -/
def declaredLength (f : List Byte) : Option Nat :=
  if isExtended f then
    match f[2]?, f[3]? with
    | some hi, some lo => some (bigEndian16 hi lo)
    | _, _ => none
  else (f[1]?).map BitVec.toNat

/-- A short length byte is valid from `MIN_FRAME_LEN` to `MAX_SHORT_LEN - 1` (R90, R93). -/
def validShortLength (l : Nat) : Bool :=
  Config.minFrameLen ≤ l && l < Config.maxShortLen

/-- An extended length is valid from `MIN_EXT_LEN` to `MAX_EXT_LEN` (R91, R93). -/
def validExtLength (x : Nat) : Bool :=
  Config.minExtLen ≤ x && x ≤ Config.maxExtLen

/-- A byte sequence is a complete frame of the wire format: the marker, a valid declared length, exactly that many
bytes (R90, R91, R93). There is no check sequence and no end marker (R99). -/
def isWireFrame (f : List Byte) : Bool :=
  f[0]? == some Config.startMarker && declaredLength f == some f.length &&
    (if isExtended f then validExtLength f.length else validShortLength f.length)

/-- `mkframe(t, p)`: the short form with tag `t` and payload `p` (41_codec.md R170). The rule defines it only where
`3 + |p| < MAX_SHORT_LEN`; for a longer payload the length byte here is `3 + |p|` modulo 256, and no rule of the block
builds such a frame. DESIGN CHOICE, safe, log 15. -/
def mkframe (t : Byte) (p : List Byte) : List Byte :=
  Config.startMarker :: BitVec.ofNat 8 (3 + p.length) :: t :: p

/-- The frame of the extended form with tag `t` and payload `p` (R91). The block never sends one (41_codec.md R170).
Past `MAX_EXT_LEN` the length is taken modulo 65536. DESIGN CHOICE, safe, log 15. -/
def mkExtFrame (t : Byte) (p : List Byte) : List Byte :=
  Config.startMarker :: BitVec.ofNat 8 Config.extLenEscape :: BitVec.ofNat 8 ((5 + p.length) / 256)
    :: BitVec.ofNat 8 (5 + p.length) :: t :: p

/-- The header word of the opcode table: marker, length byte, tag, the marker most significant (R105, R113). -/
def headerWord (marker length tag : Byte) : BitVec 24 :=
  marker ++ length ++ tag

/-- The shortest frame that a header word of a received-frame row stands for
(DESIGN CHOICE, unsafe, log 8): with a valid short length that
many bytes, all of the payload zero; with any other length byte, which the table masks out, the shortest frame with that tag. -/
def shortestFrame (length tag : Byte) : List Byte :=
  if validShortLength length.toNat then mkframe tag (List.replicate (length.toNat - 3) 0)
  else mkframe tag []

end Sys2Proof.Machine
end

