-- ==== Sys2Proof/Syntax.lean ====
section
/-! DEFINITION. The instructions: one constructor per row of spec/opcode_table.json (30_encoding.md R113), and the
words that stand for them at the block's ports and on the wire. -/

namespace Sys2Proof

/-- The typed operands that the host command port presents beside an opcode (30_encoding.md R102, R103). Every opcode
sees all of them and reads the ones it has. DESIGN CHOICE, safe, log 9. -/
structure Operands where
  cfg : Cfg := {}
  freq : BitVec 32 := 0
  power : Byte := 0
  id : BitVec 3 := 0
  deriving DecidableEq, Repr, Inhabited

/-- An input event as its port presents it (00_scope.md R7): the 10-bit word of the transport-receive port
(30_encoding.md R100) or the 8-bit opcode of the host command port with its operands (R102). -/
inductive Event where
  | transport (w : BitVec 10)
  | host (op : BitVec 8) (x : Operands)
  deriving DecidableEq, Repr

/-- What a row of the opcode table is written in (30_encoding.md R113): an input event (formats T and H), the header
word of a frame the block sends with the operands it is made from (format FS), a received frame (format FR). -/
inductive InstrWord where
  | event (e : Event)
  | sent (hdr : BitVec 24) (x : Operands)
  | received (f : List Byte)
  deriving DecidableEq, Repr

/-- The instructions, in the order of the table.

Format T: the bits a row ignores are operands, so that no bit of a word is lost. Format H: the free bits of a
reserved row are the operand. Format FS: the encode-and-send operation of an accepted command (DESIGN CHOICE, safe, log 11).
Format FR: the delivery of the frame `f` to the codec, in the step of its last byte (41_codec.md R184; DESIGN CHOICE,
safe, log 12). -/
inductive Instr where
  /-- RXERR, R143. -/
  | rxerr (valid : Bool) (data : Byte)
  /-- RXB, R130. -/
  | rxb (data : Byte)
  /-- RXIDLE, R142. -/
  | rxidle (data : Byte)
  /-- CMD_GET_VERSION, R171. -/
  | cmdGetVersion
  /-- CMD_GET_STATUS, R172. -/
  | cmdGetStatus
  /-- CMD_SET_CONFIG, R174. -/
  | cmdSetConfig (c : Cfg)
  /-- CMD_SET_FREQ, R173. -/
  | cmdSetFreq (f : BitVec 32) (p : Byte)
  /-- CLOCK, R235. -/
  | clock
  /-- BER_READ, R237. -/
  | berRead (id : BitVec 3)
  /-- RESET, R310. -/
  | reset
  /-- RESERVED_03_03, R104. -/
  | reserved0303
  /-- RESERVED_05_05, R104. -/
  | reserved0505
  /-- RESERVED_06_07, R104. -/
  | reserved0607 (low : BitVec 1)
  /-- RESERVED_08_0F, R104. -/
  | reserved080F (low : BitVec 3)
  /-- RESERVED_10_1F, R104. -/
  | reserved101F (low : BitVec 4)
  /-- RESERVED_20_3F, R104. -/
  | reserved203F (low : BitVec 5)
  /-- RESERVED_40_7F, R104. -/
  | reserved407F (low : BitVec 6)
  /-- RESERVED_80_BF, R104. -/
  | reserved80BF (low : BitVec 6)
  /-- RESERVED_C2_C3, R104. -/
  | reservedC2C3 (low : BitVec 1)
  /-- RESERVED_C4_C7, R104. -/
  | reservedC4C7 (low : BitVec 2)
  /-- RESERVED_C8_CB, R104. -/
  | reservedC8CB (low : BitVec 2)
  /-- RESERVED_CC_CD, R104. -/
  | reservedCCCD (low : BitVec 1)
  /-- RESERVED_CE_CE, R104. -/
  | reservedCECE
  /-- RESERVED_D0_DF, R104. -/
  | reservedD0DF (low : BitVec 4)
  /-- RESERVED_E0_FF, R104. -/
  | reservedE0FF (low : BitVec 5)
  /-- TX_GET_VERSION, R171. -/
  | txGetVersion
  /-- TX_GET_STATUS, R172. -/
  | txGetStatus
  /-- TX_SET_CONFIG_V1, R174. -/
  | txSetConfigV1 (c : Cfg)
  /-- TX_SET_CONFIG_V2, R174. -/
  | txSetConfigV2 (c : Cfg)
  /-- TX_SET_FREQ, R173. -/
  | txSetFreq (f : BitVec 32) (p : Byte)
  /-- RX_VERSION, R186. -/
  | rxVersion (f : List Byte)
  /-- RX_STATUS, R189. -/
  | rxStatus (f : List Byte)
  /-- RX_OTHER_02_03, R189. -/
  | rxOther0203 (f : List Byte)
  /-- RX_OTHER_04_07, R189. -/
  | rxOther0407 (f : List Byte)
  /-- RX_OTHER_08_0F, R189. -/
  | rxOther080F (f : List Byte)
  /-- RX_CODEC_DATA_10_1F, R233. -/
  | rxCodecData101F (f : List Byte)
  /-- RX_CODEC_DATA_20_3F, R233. -/
  | rxCodecData203F (f : List Byte)
  /-- RX_CODEC_DATA_40_5F, R233. -/
  | rxCodecData405F (f : List Byte)
  /-- RX_OTHER_60_6F, R189. -/
  | rxOther606F (f : List Byte)
  /-- RX_ACK, R193. -/
  | rxAck (f : List Byte)
  /-- RX_OTHER_71_71, R189. -/
  | rxOther7171 (f : List Byte)
  /-- RX_OTHER_72_73, R189. -/
  | rxOther7273 (f : List Byte)
  /-- RX_OTHER_74_77, R189. -/
  | rxOther7477 (f : List Byte)
  /-- RX_OTHER_78_7B, R189. -/
  | rxOther787B (f : List Byte)
  /-- RX_OTHER_7C_7D, R189. -/
  | rxOther7C7D (f : List Byte)
  /-- RX_OTHER_7E_7E, R189. -/
  | rxOther7E7E (f : List Byte)
  /-- RX_NAK, R194. -/
  | rxNak (f : List Byte)
  /-- RX_OTHER_80_BF, R189. -/
  | rxOther80BF (f : List Byte)
  /-- RX_OTHER_C0_DF, R189. -/
  | rxOtherC0DF (f : List Byte)
  /-- RX_OTHER_E0_EF, R189. -/
  | rxOtherE0EF (f : List Byte)
  /-- RX_OTHER_F0_F0, R189. -/
  | rxOtherF0F0 (f : List Byte)
  /-- RX_DEBUG_F1, R189. -/
  | rxDebugF1 (f : List Byte)
  /-- RX_DEBUG_F2, R189. -/
  | rxDebugF2 (f : List Byte)
  /-- RX_DEBUG_F3, R189. -/
  | rxDebugF3 (f : List Byte)
  /-- RX_DEBUG_F4, R189. -/
  | rxDebugF4 (f : List Byte)
  /-- RX_DEBUG_F5, R189. -/
  | rxDebugF5 (f : List Byte)
  /-- RX_OTHER_F6_F7, R189. -/
  | rxOtherF6F7 (f : List Byte)
  /-- RX_OTHER_F8_FF, R189. -/
  | rxOtherF8FF (f : List Byte)
  deriving DecidableEq, Repr

end Sys2Proof
end

