-- ==== Sys2Proof/WellFormed.lean ====
section
/-! DEFINITION. Which instructions are well formed: what their encoding can carry. -/

namespace Sys2Proof

/-- A received-frame row holds a complete wire frame (30_encoding.md R90 to R93) whose tag the row's mask and pattern
match (R113). -/
def frameInRow (mask pattern : Byte) (f : List Byte) : Bool :=
  Machine.isWireFrame f && (Machine.frameTag f).any (fun t => t &&& mask == pattern)

/-- Well-formed instructions. A sent SET_CONFIG frame carries a valid configuration (41_codec.md R174, R175); the
operand of `CMD_SET_CONFIG` may be out of range, since the block refuses it (R181); every other operand of formats T,
H and FS has exactly the values its encoding admits. -/
def Instr.wf : Instr → Bool
  | .rxerr _ _ => true
  | .rxb _ => true
  | .rxidle _ => true
  | .cmdGetVersion => true
  | .cmdGetStatus => true
  | .cmdSetConfig _ => true
  | .cmdSetFreq _ _ => true
  | .clock => true
  | .berRead _ => true
  | .reset => true
  | .reserved0303 => true
  | .reserved0505 => true
  | .reserved0607 _ => true
  | .reserved080F _ => true
  | .reserved101F _ => true
  | .reserved203F _ => true
  | .reserved407F _ => true
  | .reserved80BF _ => true
  | .reservedC2C3 _ => true
  | .reservedC4C7 _ => true
  | .reservedC8CB _ => true
  | .reservedCCCD _ => true
  | .reservedCECE => true
  | .reservedD0DF _ => true
  | .reservedE0FF _ => true
  | .txGetVersion => true
  | .txGetStatus => true
  | .txSetConfigV1 c => decide c.valid
  | .txSetConfigV2 c => decide c.valid
  | .txSetFreq _ _ => true
  | .rxVersion f => frameInRow 0xFF 0x00 f
  | .rxStatus f => frameInRow 0xFF 0x01 f
  | .rxOther0203 f => frameInRow 0xFE 0x02 f
  | .rxOther0407 f => frameInRow 0xFC 0x04 f
  | .rxOther080F f => frameInRow 0xF8 0x08 f
  | .rxCodecData101F f => frameInRow 0xF0 0x10 f
  | .rxCodecData203F f => frameInRow 0xE0 0x20 f
  | .rxCodecData405F f => frameInRow 0xE0 0x40 f
  | .rxOther606F f => frameInRow 0xF0 0x60 f
  | .rxAck f => frameInRow 0xFF 0x70 f
  | .rxOther7171 f => frameInRow 0xFF 0x71 f
  | .rxOther7273 f => frameInRow 0xFE 0x72 f
  | .rxOther7477 f => frameInRow 0xFC 0x74 f
  | .rxOther787B f => frameInRow 0xFC 0x78 f
  | .rxOther7C7D f => frameInRow 0xFE 0x7C f
  | .rxOther7E7E f => frameInRow 0xFF 0x7E f
  | .rxNak f => frameInRow 0xFF 0x7F f
  | .rxOther80BF f => frameInRow 0xC0 0x80 f
  | .rxOtherC0DF f => frameInRow 0xE0 0xC0 f
  | .rxOtherE0EF f => frameInRow 0xF0 0xE0 f
  | .rxOtherF0F0 f => frameInRow 0xFF 0xF0 f
  | .rxDebugF1 f => frameInRow 0xFF 0xF1 f
  | .rxDebugF2 f => frameInRow 0xFF 0xF2 f
  | .rxDebugF3 f => frameInRow 0xFF 0xF3 f
  | .rxDebugF4 f => frameInRow 0xFF 0xF4 f
  | .rxDebugF5 f => frameInRow 0xFF 0xF5 f
  | .rxOtherF6F7 f => frameInRow 0xFE 0xF6 f
  | .rxOtherF8FF f => frameInRow 0xF8 0xF8 f

end Sys2Proof
end

