-- ==== Sys2Proof/Decode.lean ====
section
/-! DEFINITION. The decoder and the encoder, both written from the tables of 30_encoding.md (R100, R102 to R105, R113). -/

namespace Sys2Proof

/-- Why a word is no instruction. -/
inductive DecodeError where
  /-- The first byte of a header word or frame is not `START_MARKER` (R105, R113). -/
  | badMarker
  /-- A received byte sequence is too short to have a type tag (R92). -/
  | truncated
  /-- No row of the format's table matches. No 10-bit word, opcode or tag is without a row (R100, R104, R113); only a
  header word that is none of the five sent frames is. -/
  | noRow
  deriving DecidableEq, Repr

/-- A row of the table of host opcodes (format H): the opcode's mask and pattern, and the instruction made from the
opcode and the operands beside it. -/
structure HostRow where
  mask : BitVec 8
  pattern : BitVec 8
  make : BitVec 8 → Operands → Instr

/-- A row of the table of received frames (format FR): the tag's mask and pattern, and the instruction made from the
frame. -/
structure FrameRow where
  mask : Byte
  pattern : Byte
  make : List Byte → Instr

/-- The host opcodes, R102, R103 and the reserved ones of R104. -/
def hostTable : List HostRow :=
  [⟨0xFF, 0x00, fun _ _ => .cmdGetVersion⟩,
   ⟨0xFF, 0x01, fun _ _ => .cmdGetStatus⟩,
   ⟨0xFF, 0x02, fun _ x => .cmdSetConfig x.cfg⟩,
   ⟨0xFF, 0x04, fun _ x => .cmdSetFreq x.freq x.power⟩,
   ⟨0xFF, 0xC0, fun _ _ => .clock⟩,
   ⟨0xFF, 0xC1, fun _ x => .berRead x.id⟩,
   ⟨0xFF, 0xCF, fun _ _ => .reset⟩,
   ⟨0xFF, 0x03, fun _ _ => .reserved0303⟩,
   ⟨0xFF, 0x05, fun _ _ => .reserved0505⟩,
   ⟨0xFE, 0x06, fun op _ => .reserved0607 (op.extractLsb' 0 1)⟩,
   ⟨0xF8, 0x08, fun op _ => .reserved080F (op.extractLsb' 0 3)⟩,
   ⟨0xF0, 0x10, fun op _ => .reserved101F (op.extractLsb' 0 4)⟩,
   ⟨0xE0, 0x20, fun op _ => .reserved203F (op.extractLsb' 0 5)⟩,
   ⟨0xC0, 0x40, fun op _ => .reserved407F (op.extractLsb' 0 6)⟩,
   ⟨0xC0, 0x80, fun op _ => .reserved80BF (op.extractLsb' 0 6)⟩,
   ⟨0xFE, 0xC2, fun op _ => .reservedC2C3 (op.extractLsb' 0 1)⟩,
   ⟨0xFC, 0xC4, fun op _ => .reservedC4C7 (op.extractLsb' 0 2)⟩,
   ⟨0xFC, 0xC8, fun op _ => .reservedC8CB (op.extractLsb' 0 2)⟩,
   ⟨0xFE, 0xCC, fun op _ => .reservedCCCD (op.extractLsb' 0 1)⟩,
   ⟨0xFF, 0xCE, fun _ _ => .reservedCECE⟩,
   ⟨0xF0, 0xD0, fun op _ => .reservedD0DF (op.extractLsb' 0 4)⟩,
   ⟨0xE0, 0xE0, fun op _ => .reservedE0FF (op.extractLsb' 0 5)⟩]

/-- The received frames by tag, R94 to R97, R113. -/
def receivedTable : List FrameRow :=
  [⟨0xFF, 0x00, .rxVersion⟩,
   ⟨0xFF, 0x01, .rxStatus⟩,
   ⟨0xFE, 0x02, .rxOther0203⟩,
   ⟨0xFC, 0x04, .rxOther0407⟩,
   ⟨0xF8, 0x08, .rxOther080F⟩,
   ⟨0xF0, 0x10, .rxCodecData101F⟩,
   ⟨0xE0, 0x20, .rxCodecData203F⟩,
   ⟨0xE0, 0x40, .rxCodecData405F⟩,
   ⟨0xF0, 0x60, .rxOther606F⟩,
   ⟨0xFF, 0x70, .rxAck⟩,
   ⟨0xFF, 0x71, .rxOther7171⟩,
   ⟨0xFE, 0x72, .rxOther7273⟩,
   ⟨0xFC, 0x74, .rxOther7477⟩,
   ⟨0xFC, 0x78, .rxOther787B⟩,
   ⟨0xFE, 0x7C, .rxOther7C7D⟩,
   ⟨0xFF, 0x7E, .rxOther7E7E⟩,
   ⟨0xFF, 0x7F, .rxNak⟩,
   ⟨0xC0, 0x80, .rxOther80BF⟩,
   ⟨0xE0, 0xC0, .rxOtherC0DF⟩,
   ⟨0xF0, 0xE0, .rxOtherE0EF⟩,
   ⟨0xFF, 0xF0, .rxOtherF0F0⟩,
   ⟨0xFF, 0xF1, .rxDebugF1⟩,
   ⟨0xFF, 0xF2, .rxDebugF2⟩,
   ⟨0xFF, 0xF3, .rxDebugF3⟩,
   ⟨0xFF, 0xF4, .rxDebugF4⟩,
   ⟨0xFF, 0xF5, .rxDebugF5⟩,
   ⟨0xFE, 0xF6, .rxOtherF6F7⟩,
   ⟨0xF8, 0xF8, .rxOtherF8FF⟩]

/-- Decodes a transport word (R100): bit 9 is `err`, bit 8 `valid`, bits 7 to 0 `data`; `err` wins over `valid`. -/
def decodeTransport (w : BitVec 10) : Instr :=
  if w.getLsbD 9 then .rxerr (w.getLsbD 8) (w.extractLsb' 0 8)
  else if w.getLsbD 8 then .rxb (w.extractLsb' 0 8)
  else .rxidle (w.extractLsb' 0 8)

/-- Decodes a host opcode with the operands beside it (R102 to R104). -/
def decodeHost (op : BitVec 8) (x : Operands) : Except DecodeError Instr :=
  match hostTable.find? (fun r => op &&& r.mask == r.pattern) with
  | some r => .ok (r.make op x)
  | none => .error .noRow

/-- Decodes the header word of a frame the block sends (R105). -/
def decodeSent (hdr : BitVec 24) (x : Operands) : Except DecodeError Instr :=
  if hdr == 0xE00300 then .ok .txGetVersion
  else if hdr == 0xE00301 then .ok .txGetStatus
  else if hdr == 0xE01B02 then .ok (.txSetConfigV1 x.cfg)
  else if hdr == 0xE02802 then .ok (.txSetConfigV2 x.cfg)
  else if hdr == 0xE00D04 then .ok (.txSetFreq x.freq x.power)
  else .error .noRow

/-- Decodes a received frame by the start marker and the tag of its form, and by nothing else: the length byte is masked
out (R113), and no length or check sequence is tested (R99, 41_codec.md R185). -/
def decodeReceived (f : List Byte) : Except DecodeError Instr :=
  if f[0]? == some Config.startMarker then
    match Machine.frameTag f with
    | none => .error .truncated
    | some t =>
      match receivedTable.find? (fun r => t &&& r.mask == r.pattern) with
      | some r => .ok (r.make f)
      | none => .error .noRow
  else .error .badMarker

/-- Decodes an input event of either port (00_scope.md R7). -/
def decodeEvent : Event → Except DecodeError Instr
  | .transport w => .ok (decodeTransport w)
  | .host op x => decodeHost op x

/-- The decoder of all four formats. -/
def decode : InstrWord → Except DecodeError Instr
  | .event e => decodeEvent e
  | .sent hdr x => decodeSent hdr x
  | .received f => decodeReceived f

/-- A transport word from its three fields (R100). -/
def transportWord (err valid : Bool) (data : Byte) : BitVec 10 :=
  BitVec.ofBool err ++ BitVec.ofBool valid ++ data

/-- The word of an instruction, from the tables of R100, R102 to R105 and R113. -/
def encode : Instr → InstrWord
  | .rxerr valid data => .event (.transport (transportWord true valid data))
  | .rxb data => .event (.transport (transportWord false true data))
  | .rxidle data => .event (.transport (transportWord false false data))
  | .cmdGetVersion => .event (.host 0x00 {})
  | .cmdGetStatus => .event (.host 0x01 {})
  | .cmdSetConfig c => .event (.host 0x02 { cfg := c })
  | .cmdSetFreq f p => .event (.host 0x04 { freq := f, power := p })
  | .clock => .event (.host 0xC0 {})
  | .berRead id => .event (.host 0xC1 { id := id })
  | .reset => .event (.host 0xCF {})
  | .reserved0303 => .event (.host 0x03 {})
  | .reserved0505 => .event (.host 0x05 {})
  | .reserved0607 low => .event (.host (0x3#7 ++ low) {})
  | .reserved080F low => .event (.host (0x1#5 ++ low) {})
  | .reserved101F low => .event (.host (0x1#4 ++ low) {})
  | .reserved203F low => .event (.host (0x1#3 ++ low) {})
  | .reserved407F low => .event (.host (0x1#2 ++ low) {})
  | .reserved80BF low => .event (.host (0x2#2 ++ low) {})
  | .reservedC2C3 low => .event (.host (0x61#7 ++ low) {})
  | .reservedC4C7 low => .event (.host (0x31#6 ++ low) {})
  | .reservedC8CB low => .event (.host (0x32#6 ++ low) {})
  | .reservedCCCD low => .event (.host (0x66#7 ++ low) {})
  | .reservedCECE => .event (.host 0xCE {})
  | .reservedD0DF low => .event (.host (0xD#4 ++ low) {})
  | .reservedE0FF low => .event (.host (0x7#3 ++ low) {})
  | .txGetVersion => .sent 0xE00300 {}
  | .txGetStatus => .sent 0xE00301 {}
  | .txSetConfigV1 c => .sent 0xE01B02 { cfg := c }
  | .txSetConfigV2 c => .sent 0xE02802 { cfg := c }
  | .txSetFreq f p => .sent 0xE00D04 { freq := f, power := p }
  | .rxVersion f => .received f
  | .rxStatus f => .received f
  | .rxOther0203 f => .received f
  | .rxOther0407 f => .received f
  | .rxOther080F f => .received f
  | .rxCodecData101F f => .received f
  | .rxCodecData203F f => .received f
  | .rxCodecData405F f => .received f
  | .rxOther606F f => .received f
  | .rxAck f => .received f
  | .rxOther7171 f => .received f
  | .rxOther7273 f => .received f
  | .rxOther7477 f => .received f
  | .rxOther787B f => .received f
  | .rxOther7C7D f => .received f
  | .rxOther7E7E f => .received f
  | .rxNak f => .received f
  | .rxOther80BF f => .received f
  | .rxOtherC0DF f => .received f
  | .rxOtherE0EF f => .received f
  | .rxOtherF0F0 f => .received f
  | .rxDebugF1 f => .received f
  | .rxDebugF2 f => .received f
  | .rxDebugF3 f => .received f
  | .rxDebugF4 f => .received f
  | .rxDebugF5 f => .received f
  | .rxOtherF6F7 f => .received f
  | .rxOtherF8FF f => .received f

/-- The instruction word that a number of the opcode table stands for, by the width of its row in whole bytes (R113):
8 bits a host opcode, 16 bits a 10-bit transport word, 24 bits a header word. A header word of one of the five sent
frames is that frame; any other stands for the shortest received frame with its marker, length byte and tag (log 8). -/
def tableWord (nbits w : Nat) : Option InstrWord :=
  if nbits ≤ 8 then some (.event (.host (BitVec.ofNat 8 w) {}))
  else if nbits ≤ 16 then some (.event (.transport (BitVec.ofNat 10 w)))
  else if nbits ≤ 24 then
    match decodeSent (BitVec.ofNat 24 w) {} with
    | .ok _ => some (.sent (BitVec.ofNat 24 w) {})
    | .error _ =>
      if BitVec.ofNat 8 (w / 65536) == Config.startMarker then
        some (.received (Machine.shortestFrame (BitVec.ofNat 8 (w / 256)) (BitVec.ofNat 8 w)))
      else none
  else none

/-- What the decoder reads from a word of the opcode table, operands zero. -/
def decodeTableWord (nbits w : Nat) : Option Instr :=
  match tableWord nbits w with
  | none => none
  | some iw =>
    match decode iw with
    | .ok i => some i
    | .error _ => none

end Sys2Proof
end

