-- ==== Sys2Proof/Machine/State.lean ====
section
/-! DEFINITION. The state of the block (10_state.md R20 to R43), its output record (00_scope.md R8), the reasons a step
can stop, and the state after reset (10_state.md R40). Plain data throughout. -/

namespace Sys2Proof.Machine

/-- The framer's position (10_state.md R21). -/
inductive RxState where
  | awaitStart | awaitLength | awaitExtLen | awaitType | awaitPayload
  deriving DecidableEq, Repr, Inhabited

/-- A negotiated protocol version; the register's `NONE` is `Option.none` (10_state.md R27). -/
inductive ProtoVersion where
  | v1 | v2
  deriving DecidableEq, Repr, Inhabited

/-- A hardware type; the register's `NONE` is `Option.none` (10_state.md R28). -/
inductive HwType where
  | generic | hotspotVariant
  deriving DecidableEq, Repr, Inhabited

/-- Which command awaits its ACK or NAK (10_state.md R33). -/
inductive AckWait where
  | idle | waitConfig | waitFreq
  deriving DecidableEq, Repr, Inhabited

/-- The registers of one checker (10_state.md R36, R37). -/
structure BerBank where
  bits : Nat := 0
  errors : Nat := 0
  frames : Nat := 0
  timer : Nat := 0
  running : Bool := false
  deriving DecidableEq, Repr, Inhabited

/-- The six banks (10_state.md R36). -/
structure BerBanks where
  dstar : BerBank := {}
  dmr : BerBank := {}
  dmr1031 : BerBank := {}
  ysf : BerBank := {}
  p25 : BerBank := {}
  nxdn : BerBank := {}
  deriving DecidableEq, Repr, Inhabited

/-- What the framer reports (00_scope.md R8). -/
inductive RxStatus where
  | cont | wouldBlock | frameDone | transportError | protocolError
  deriving DecidableEq, Repr, Inhabited

/-- The class of a delivered frame (41_codec.md R182). -/
inductive FrameClass where
  | ack | nak | version | status | codecData | debug | other
  deriving DecidableEq, Repr, Inhabited

/-- What the acknowledgement tracker reports (00_scope.md R8). -/
inductive Link where
  | none | acked | naked | unresponsive
  deriving DecidableEq, Repr, Inhabited

/-- Whether a host command was accepted (00_scope.md R8). -/
inductive CmdStatus where
  | ok | refused
  deriving DecidableEq, Repr, Inhabited

/-- The causes of 60_exceptions.md R281. -/
inductive Cause where
  | none | invalidLength | unsupportedVersion | boardNotSupported | malformedResponse | transportReadError
  | busy | notNegotiated | badOperand | badOp | counterOverflow
  deriving DecidableEq, Repr, Inhabited

/-- The rate of a report (42_fec_ber.md R236): no data, or an exact rational percentage. -/
inductive Rate where
  | noData
  | percent (q : Rat)
  deriving DecidableEq, Repr

/-- A BER report (42_fec_ber.md R236). -/
structure BerReport where
  id : CheckerId
  errors : Nat
  bits : Nat
  frames : Nat
  final : Bool
  rate : Rate
  deriving DecidableEq, Repr

/-- The output record of a step (00_scope.md R8); the defaults are the idle values. -/
structure Output where
  rxStatus : RxStatus := .cont
  frame : Option (List Byte) := none
  cls : Option FrameClass := none
  link : Link := .none
  linkInfo : Option Byte := none
  cmdStatus : CmdStatus := .ok
  tx : Option (List Byte) := none
  cause : Cause := .none
  info : Nat := 0
  report : List BerReport := []
  deriving DecidableEq, Repr

/-- The output record with every field idle (00_scope.md R8). -/
def Output.idle : Output := {}

/-- The state. The framer's registers, then the codec's, then the BER bank's (10_state.md R20), then two fields of the
model's own: `out`, the output record of the last step (DESIGN CHOICE, safe, log 3), and `pending`, the input events not
yet presented to the block, first one next (DESIGN CHOICE, unsafe, log 4). -/
structure State where
  rxState : RxState
  rxOffset : Nat
  rxLength : Nat
  rxExt : Bool
  buf : List Host.Cell
  protoVersion : Option ProtoVersion
  hwType : Option HwType
  cfgCommitted : Cfg
  cfgPending : Cfg
  ackWait : AckWait
  ackTries : Nat
  ber : BerBanks
  faultOvf : Bool
  out : Output
  pending : List Event
  deriving DecidableEq, Repr

/-- Why the model stops with a fault. None is raised in a state that a run from reset reaches (60_exceptions.md R295);
all are safe: the model stops where the spec gives the block no behaviour. DESIGN CHOICE, log 5. -/
inductive Fault where
  /-- `RXB` in `AwaitExtLen` with `rx_offset` neither 2 nor 3: 40_framer.md R130 has no row for it. Safe. -/
  | noFramerRule
  /-- `RXB` would store at an index at or above `BUF_BYTES`, an address 20_memory.md R60 says does not exist. Safe. -/
  | bufferBounds
  /-- A completed byte sequence without start marker or without a type tag; 10_state.md R26 rules it out. Safe. -/
  | noFrame (e : DecodeError)
  deriving DecidableEq, Repr

/-- Why the model refuses an instruction. -/
inductive Refusal where
  /-- Raised by an arm of `exec` whose instruction has no meaning yet. Safe. No arm raises it. -/
  | notModelled (mnemonic : String)
  /-- Raised by `step` for an event word that no row of the opcode table matches. Safe. Every event word has a row
  (30_encoding.md R100, R104), so no step raises it. -/
  | undecodable (e : DecodeError)
  deriving DecidableEq, Repr

/-- The state after power-on and `RESET` (10_state.md R40): the framer at its start with nothing stored (the buffer lists
nothing, so every byte reads as what log 1 names), nothing negotiated, `CFG_INIT`, the tracker idle, every bank cleared. -/
def State.reset : State where
  rxState := .awaitStart
  rxOffset := 0
  rxLength := 0
  rxExt := false
  buf := []
  protoVersion := none
  hwType := none
  cfgCommitted := Config.cfgInit
  cfgPending := Config.cfgInit
  ackWait := .idle
  ackTries := 0
  ber := {}
  faultOvf := false
  out := {}
  pending := []

end Sys2Proof.Machine
end

