-- ==== Sys2Proof/Machine/Ops.lean ====
section
/-! DEFINITION. The operations every rule is built from: the frame buffer, the checker banks, the output record, and
taking an error (60_exceptions.md R285). There is no return from an error beside it: control goes nowhere and the next
event is handled by the ordinary rules (R285 to R287). -/

namespace Sys2Proof.Machine

/-- The outcome of a step of this machine. -/
abbrev Result := Host.Outcome State Fault Refusal

/-! ## The frame buffer (20_memory.md R60, R61) -/

/-- What a buffer byte that nothing has written since reset reads as: 0. The spec leaves it unspecified (10_state.md
R40) and allows any value (93_implementation_defined.md U1). DESIGN CHOICE, unsafe, log 1. -/
def Memory.unlisted : Byte := 0

/-- The canonical form of the buffer: addresses strictly rising, all inside `[0, BUF_BYTES - 1]` (R60), and no listed
byte equal to what an unlisted address reads as. -/
abbrev Memory.wf (m : List Host.Cell) : Prop :=
  m.Pairwise (fun c d => c.1 < d.1) ∧ ∀ c ∈ m, c.1 < Config.bufBytes ∧ c.2 ≠ Memory.unlisted

/-- The byte at an address: `buf` is `BUF_BYTES` bytes and every address has one (10_state.md R25). -/
def Memory.read : List Host.Cell → Nat → Byte
  | [], _ => Memory.unlisted
  | c :: m, a => if c.1 = a then c.2 else Memory.read m a

/-- Takes an address out of the list. -/
def Memory.erase (m : List Host.Cell) (a : Nat) : List Host.Cell :=
  m.filter (fun c => c.1 != a)

/-- Puts a cell before the first higher address. -/
def Memory.insert (c : Host.Cell) : List Host.Cell → List Host.Cell
  | [] => [c]
  | d :: m => if c.1 < d.1 then c :: d :: m else d :: Memory.insert c m

/-- Stores one byte, keeping the canonical form (`buf[a] <- b`, 00_scope.md R10). -/
def Memory.write (m : List Host.Cell) (a : Nat) (b : Byte) : List Host.Cell :=
  if b = Memory.unlisted then Memory.erase m a else Memory.insert (a, b) (Memory.erase m a)

/-- The `n` bytes from address `a` up, `buf[a..a+n)` (00_scope.md R10). -/
def Memory.readRange (m : List Host.Cell) (a n : Nat) : List Byte :=
  (List.range n).map (fun i => Memory.read m (a + i))

/-- Stores a byte sequence from address `a` up. -/
def Memory.writeRange (m : List Host.Cell) (a : Nat) : List Byte → List Host.Cell
  | [] => m
  | b :: f => Memory.writeRange (Memory.write m a b) (a + 1) f

/-! ## The checker banks (10_state.md R36) -/

/-- The six checker ids in rising order (30_encoding.md R103). -/
def checkerIds : List CheckerId := [.dstar, .dmr, .dmr1031, .ysf, .p25, .nxdn]

/-- The number of a checker id (30_encoding.md R103). -/
def checkerNumber : CheckerId → Nat
  | .dstar => 0
  | .dmr => 1
  | .dmr1031 => 2
  | .ysf => 3
  | .p25 => 4
  | .nxdn => 5

/-- The checker id of a 3-bit operand; the values 6 and 7 are reserved (30_encoding.md R103). -/
def checkerOfNumber (n : BitVec 3) : Option CheckerId :=
  checkerIds[n.toNat]?

/-- `ber[id]`. -/
def bankOf (b : BerBanks) : CheckerId → BerBank
  | .dstar => b.dstar
  | .dmr => b.dmr
  | .dmr1031 => b.dmr1031
  | .ysf => b.ysf
  | .p25 => b.p25
  | .nxdn => b.nxdn

/-- `ber[id] <- v`. -/
def setBank (b : BerBanks) (id : CheckerId) (v : BerBank) : BerBanks :=
  match id with
  | .dstar => { b with dstar := v }
  | .dmr => { b with dmr := v }
  | .dmr1031 => { b with dmr1031 := v }
  | .ysf => { b with ysf := v }
  | .p25 => { b with p25 := v }
  | .nxdn => { b with nxdn := v }

/-- Applies `g` to every bank. -/
def mapBanks (b : BerBanks) (g : BerBank → BerBank) : BerBanks where
  dstar := g b.dstar
  dmr := g b.dmr
  dmr1031 := g b.dmr1031
  ysf := g b.ysf
  p25 := g b.p25
  nxdn := g b.nxdn

/-! ## The output record (00_scope.md R8) and errors (60_exceptions.md R285) -/

/-- Sets the step's output record; the fields a rule does not name are idle in the record it gives. -/
def report (o : Output) (s : State) : State :=
  { s with out := o }

/-- Puts the four framer registers at `AwaitStart` with nothing stored (R285, 40_framer.md R141). The buffer keeps its
bytes as residue. -/
def resetFramer (s : State) : State :=
  { s with rxState := .awaitStart, rxOffset := 0, rxLength := 0, rxExt := false }

/-- `raise ProtocolError(cause, info)` of the framer and `raise TransportError(cause, info)`: taking an error
(60_exceptions.md R285). -/
def raiseError (status : RxStatus) (cause : Cause) (info : Nat) (s : State) : State :=
  report { rxStatus := status, cause := cause, info := info } (resetFramer s)

/-- `fail(cause, info)` of the version decoder (41_codec.md R186): reports and writes no register. -/
def failDecode (cause : Cause) (info : Nat) (s : State) : State :=
  report { s.out with cause := cause, info := info } s

/-- `refuse(cause, info)` (41_codec.md R181, 60_exceptions.md R288): changes no register and produces no `tx`. -/
def refuse (cause : Cause) (info : Nat) (s : State) : State :=
  report { cmdStatus := .refused, cause := cause, info := info } s

/-- `overflow(id)` (42_fec_ber.md R239): the sticky flag and the report; the bank is left as it was. -/
def overflow (id : CheckerId) (s : State) : State :=
  { s with faultOvf := true, out := { s.out with cause := .counterOverflow, info := checkerNumber id } }

end Sys2Proof.Machine
end

