-- ==== Sys2Proof/Machine/Checker.lean ====
section
/-! DEFINITION. The bit-error primitive and the generic regenerate-and-compare checker (42_fec_ber.md R220 to R227). -/

namespace Sys2Proof.Machine

/-- `countErrs(a, b)`: the population count of `a XOR b` (42_fec_ber.md R220). -/
def countErrs (a b : Byte) : Nat :=
  (List.range 8).countP (fun i => (a ^^^ b).getLsbD i)

/-- `countErrs` of two byte sequences of one length: the sum over corresponding bytes (42_fec_ber.md R221). -/
def countErrsBytes (s t : List Byte) : Nat :=
  (List.zipWith countErrs s t).sum

/-- `countErrs` of two bit vectors of one length: the number of positions where they differ (42_fec_ber.md R221). -/
def countErrsBits (x y : List Bool) : Nat :=
  (List.zipWith (fun a b => a != b) x y).countP id

/-- `bit(s, i)`: bit 0 of a packed array is the most significant bit of byte 0 (00_scope.md R11). -/
def packedBit (s : List Byte) (i : Nat) : Bool :=
  (s.getD (i / 8) 0).getLsbD (7 - i % 8)

/-- `bits(s, L)` (00_scope.md R11). A position past the end reads as 0; admissible descriptors have none (42_fec_ber.md
R223). DESIGN CHOICE, safe, log 14. -/
def packedBits (s : List Byte) (positions : List Nat) : List Bool :=
  positions.map (packedBit s)

/-- `p XOR mask`, byte by byte: the descrambling pre-step (42_fec_ber.md R224, R227). -/
def descramble (p mask : List Byte) : List Byte :=
  List.zipWith (fun a b => a ^^^ b) p mask

/-- The check-bit mismatches of one block (42_fec_ber.md R224). -/
def blockErrors (q : List Byte) (b : Block) : Nat :=
  countErrsBits (b.regen (packedBits q b.info)) (packedBits q b.check)

/-- `check(d, st, p)`: errors and bits of this frame, or none for a frame the checker does not score
(42_fec_ber.md R224). -/
def checkFrame (d : CheckerDesc) (st : Nat) (p : List Byte) : Option (Nat × Nat) :=
  if d.scoreable st p then
    some (((d.blocks st).map (blockErrors (descramble p (d.mask st p.length)))).sum, d.frameBits st)
  else none

/-- `regen` as multiplication by a parity matrix over GF(2), a list of rows (42_fec_ber.md R225). -/
def linearRegen (rows : List (List Bool)) (x : List Bool) : List Bool :=
  rows.map (fun row => (List.zipWith (fun a b => a && b) row x).foldl (fun a b => a != b) false)

/-- A fixed-pattern block: no information bits, a constant reference that repeats `pattern` to the length of `check`
(42_fec_ber.md R226). -/
def fixedPatternBlock (pattern : List Bool) (check : List Nat) : Block where
  info := []
  check := check
  regen := fun _ => (List.range check.length).map (fun j => pattern.getD (j % pattern.length) false)

/-- `TOY74`, the Hamming (7,4) descriptor of the spec's examples (42_fec_ber.md R225); not one of the six. -/
def toy74 : CheckerDesc where
  scoreable := fun _ p => p.length == 1
  mask := fun _ n => List.replicate n 0
  blocks := fun _ =>
    [{ info := [0, 1, 2, 3]
       check := [4, 5, 6]
       regen := linearRegen [[true, true, false, true], [true, false, true, true], [false, true, true, true]] }]
  frameBits := fun _ => 7

end Sys2Proof.Machine
end

