-- ==== Sys2Proof/Machine/Flags.lean ====
section
/-! DEFINITION. The status flags of 10_state.md R43 that a rule tests, and the codes of 60_exceptions.md R281. -/

namespace Sys2Proof.Machine

/-- The flag `ack_wait != IDLE`: a command awaits its ACK or NAK (10_state.md R33, R43). -/
def awaiting (s : State) : Bool :=
  s.ackWait != .idle

/-- A report that ends a poll, and so is an attempt while a command is awaited (40_framer.md R144, 41_codec.md R192). -/
def endsPoll (r : RxStatus) : Bool :=
  r != .cont

/-- The timeout of a bank fires at this `CLOCK` (42_fec_ber.md R235). -/
def timeoutFires (b : BerBank) : Bool :=
  b.running && b.timer == 1

/-- An addition would carry a counter past `2^CNT_W - 1` (42_fec_ber.md R234). -/
def wouldOverflow (b : BerBank) (errs nbits : Nat) : Bool :=
  decide (b.errors + errs > Config.cntMax) || decide (b.bits + nbits > Config.cntMax)
    || decide (b.frames + 1 > Config.cntMax)

/-- The code of `rx_status` (60_exceptions.md R281). -/
def rxStatusCode : RxStatus → Nat
  | .cont => 0
  | .wouldBlock => 1
  | .frameDone => 2
  | .transportError => 3
  | .protocolError => 4

/-- The code of `link` (60_exceptions.md R281). -/
def linkCode : Link → Nat
  | .none => 0
  | .acked => 1
  | .naked => 2
  | .unresponsive => 3

/-- The code of `cmd_status` (60_exceptions.md R281). -/
def cmdStatusCode : CmdStatus → Nat
  | .ok => 0
  | .refused => 1

/-- The code of `cause` (60_exceptions.md R281). -/
def causeCode : Cause → Nat
  | .none => 0
  | .invalidLength => 1
  | .unsupportedVersion => 2
  | .boardNotSupported => 3
  | .malformedResponse => 4
  | .transportReadError => 5
  | .busy => 6
  | .notNegotiated => 7
  | .badOperand => 8
  | .badOp => 9
  | .counterOverflow => 10

end Sys2Proof.Machine
end

