-- ==== Sys2Proof/Machine/Operands.lean ====
section
/-! DEFINITION. Operand and immediate assembly (30_encoding.md R106 to R110) and the configuration frame
(41_codec.md R176 to R179, R185). -/

namespace Sys2Proof.Machine

/-- `le4(f)`: the four bytes of a frequency, least significant first (30_encoding.md R107, 20_memory.md R65). -/
def littleEndian4 (f : BitVec 32) : List Byte :=
  [f.extractLsb' 0 8, f.extractLsb' 8 8, f.extractLsb' 16 8, f.extractLsb' 24 8]

/-- The payload of SET_FREQ: one zero byte, the frequency twice, the power (30_encoding.md R107, 41_codec.md R173). -/
def freqPayload (f : BitVec 32) (p : Byte) : List Byte :=
  [0x00] ++ littleEndian4 f ++ littleEndian4 f ++ [p]

/-- `enc_level(x) = floor((510 * x + 100 * LEVEL_SCALE) / (200 * LEVEL_SCALE))` (30_encoding.md R108). -/
def encLevel (x : Int) : Byte :=
  BitVec.ofInt 8 ((510 * x + 100 * Config.levelScale) / (200 * Config.levelScale))

/-- `enc_dc(d) = d + 128` (30_encoding.md R109). -/
def encDc (d : Int) : Byte :=
  BitVec.ofInt 8 (d + 128)

/-- `dec_dc(b) = b - 128` (30_encoding.md R109). -/
def decDc (b : Byte) : Int :=
  (b.toNat : Int) - 128

/-- The calibration mode byte of a configuration (10_state.md R32). -/
def modeByte (c : Cfg) : Byte :=
  BitVec.ofInt 8 c.mode

/-- `stored(n)`: the bit a flag is stored as, by its polarity (30_encoding.md R110, 41_codec.md R177). -/
def storedBit (l : Layout) (c : Cfg) (n : FlagName) : Bool :=
  c.flag n == ((l.flag n).pol == Polarity.pos)

/-- Some flag lies in the byte at index `i` (41_codec.md R177). -/
def holdsFlag (l : Layout) (i : Nat) : Bool :=
  FlagName.all.any (fun n => (l.flag n).off == i)

/-- A byte that holds flags: bit `b` is the stored bit of the flag at `(i, b)`, 0 where no flag is (41_codec.md R177).
Two flags at one place, which no well-formed layout has, give the OR of their stored bits. DESIGN CHOICE, safe, log 16. -/
def flagByte (l : Layout) (c : Cfg) (i : Nat) : Byte :=
  BitVec.ofFnLE (fun b : Fin 8 =>
    FlagName.all.any (fun n => (l.flag n).off == i && (l.flag n).bit == b && storedBit l c n))

/-- The byte at index `i` of a configuration frame, from index 3 up (41_codec.md R177). An index in several lists, which
no well-formed layout has, takes the first case in the order below. DESIGN CHOICE, safe, log 16. -/
def cfgByte (l : Layout) (c : Cfg) (i : Nat) : Byte :=
  if holdsFlag l i then flagByte l c i
  else if i ∈ l.mode then modeByte c
  else if i ∈ l.dc .tx then encDc c.dcTx
  else if i ∈ l.dc .rx then encDc c.dcRx
  else if i ∈ l.level .rx then encLevel c.levelRx
  else if i ∈ l.level .tx then encLevel c.levelTx
  else l.fill i

/-- `encode_cfg(layout, c)` (41_codec.md R177). The rule's bytes are those of a layout whose `total` is a valid short
length; for a `total` of 256 and above the length byte here is `total` modulo 256, and a `total` below 3 still gives the
three header bytes. DESIGN CHOICE, safe, log 16. -/
def encodeCfg (l : Layout) (c : Cfg) : List Byte :=
  Config.startMarker :: BitVec.ofNat 8 l.total :: Config.tagSetConfig
    :: (List.range (l.total - 3)).map (fun k => cfgByte l c (k + 3))

/-- The fixed fields that `decode_cfg` recovers (41_codec.md R179): levels as bytes. -/
structure FixedFields where
  flag : FlagName → Bool
  mode : Byte
  dc : Side → Int
  levelByte : Side → Byte

/-- The byte of `g` at the first index of a layout list (41_codec.md R179). An empty list reads index 0 and an index past
the end of `g` reads 0; well-formed layouts have neither. DESIGN CHOICE, safe, log 16. -/
def firstByte (g : List Byte) (is : List Nat) : Byte :=
  g.getD (is.headD 0) 0

/-- `decode_cfg(layout, g)`; no result when a precondition on `g` fails (41_codec.md R179). No event invokes it. `g[1]`
is compared with `total` as a number, so no byte meets a `total` of 256 and above. A flag whose `off` is past the end of
`g`, which no well-formed layout has, is read from 0. DESIGN CHOICE, safe, log 16. -/
def decodeCfg (l : Layout) (g : List Byte) : Option FixedFields :=
  if g.length = l.total ∧ g[0]? = some Config.startMarker ∧ (g[1]?).map BitVec.toNat = some l.total
      ∧ g[2]? = some Config.tagSetConfig then
    some {
      flag := fun n => (g.getD (l.flag n).off 0).getLsbD (l.flag n).bit == ((l.flag n).pol == Polarity.pos)
      mode := firstByte g l.mode
      dc := fun k => decDc (firstByte g (l.dc k))
      levelByte := fun k => firstByte g (l.level k) }
  else none

/-- `validate(f, t)`: start marker and tag, nothing else (41_codec.md R185). -/
def validateFrame (f : List Byte) (t : Byte) : Bool :=
  f[0]? == some Config.startMarker && frameTag f == some t

/-- `board(desc)` (41_codec.md R187). -/
def board (desc : List Byte) : Option HwType :=
  if Config.hotspotPrefixes.any (fun p => p.isPrefixOf desc) then some .hotspotVariant
  else if Config.genericPrefixes.any (fun p => p.isPrefixOf desc) then some .generic
  else none

end Sys2Proof.Machine
end

