-- ==== Sys2Proof/Machine/Ber.lean ====
section
/-! DEFINITION. The BER bank: dispatch, accumulation, timeout and report (42_fec_ber.md R233 to R239). -/

namespace Sys2Proof.Machine

/-- The `rate` of a report: `NoData` for zero bits, else the exact rational `100 * errors / bits` (42_fec_ber.md R236,
R238). -/
def berRate (b : BerBank) : Rate :=
  if b.bits = 0 then .noData else .percent (mkRat (100 * b.errors : Nat) b.bits)

/-- `mkreport(id, final)` (42_fec_ber.md R236). -/
def mkReport (b : BerBanks) (id : CheckerId) (final : Bool) : BerReport where
  id := id
  errors := (bankOf b id).errors
  bits := (bankOf b id).bits
  frames := (bankOf b id).frames
  final := final
  rate := berRate (bankOf b id)

/-- A bank after one more scored frame (42_fec_ber.md R234). -/
def bankAdd (b : BerBank) (errs nbits : Nat) : BerBank where
  bits := b.bits + nbits
  errors := b.errors + errs
  frames := b.frames + 1
  timer := Config.berTimeoutTicks
  running := true

/-- `accumulate(id, errs, nbits)` (42_fec_ber.md R234, R239). -/
def accumulate (id : CheckerId) (errs nbits : Nat) (s : State) : State :=
  if wouldOverflow (bankOf s.ber id) errs nbits then overflow id s
  else { s with ber := setBank s.ber id (bankAdd (bankOf s.ber id) errs nbits) }

/-- The score of a codec frame with the OPEN parameters as arguments: the selected checker with the errors and bits of
this frame; none when no checker is selected or the checker does not score the frame (42_fec_ber.md R233). -/
def scoreFrame (select : Byte → Byte → Option CheckerId) (subtype : Byte → Nat) (desc : CheckerId → CheckerDesc)
    (mode : Byte) (f : List Byte) : Option (CheckerId × Nat × Nat) :=
  match frameTag f with
  | none => none
  | some t =>
    match select mode t with
    | none => none
    | some id =>
      match checkFrame (desc id) (subtype t) (framePayload f) with
      | none => none
      | some (errs, nbits) => some (id, errs, nbits)

/-- `ber_dispatch(f)`: the frame is offered to the checker that the committed mode and the tag select; a frame that
is not scored changes nothing (42_fec_ber.md R233). -/
def berDispatch (f : List Byte) (s : State) : State :=
  match scoreFrame Config.checkerSelect Config.subtypeOf Config.checkerDesc (modeByte s.cfgCommitted) f with
  | none => s
  | some (id, errs, nbits) => accumulate id errs nbits s

/-- One bank at a `CLOCK` event (42_fec_ber.md R235). -/
def bankTick (b : BerBank) : BerBank :=
  if b.running then
    if b.timer = 1 then {} else { b with timer := b.timer - 1 }
  else b

/-- The final reports of a `CLOCK` event, in rising id order, from the counters before they are cleared
(42_fec_ber.md R235). -/
def clockReports (b : BerBanks) : List BerReport :=
  (checkerIds.filter (fun id => timeoutFires (bankOf b id))).map (fun id => mkReport b id true)

end Sys2Proof.Machine
end

