-- ==== Sys2Proof/Machine/SentFrame.lean ====
section
/-! DEFINITION. Family FS of the opcode table: encoding and sending a frame, with what the sending writes
(41_codec.md R170 to R174, R177, R199). The accepted host commands run these. -/

namespace Sys2Proof.Machine

/-- Hands one whole frame to the transport (20_memory.md R63, 41_codec.md R199). -/
def sendFrame (f : List Byte) (s : State) : State :=
  report { tx := some f } s

/-- Arms the tracker in the step of the command (41_codec.md R199, 10_state.md R33, R34). -/
def armTracker (w : AckWait) (s : State) : State :=
  { s with ackWait := w, ackTries := 0 }

/-- Sends a configuration in a layout and awaits its ACK (41_codec.md R174). -/
def sendConfig (l : Layout) (c : Cfg) (s : State) : State :=
  armTracker .waitConfig { sendFrame (encodeCfg l c) s with cfgPending := c }

/-- TX_GET_VERSION: `E0 03 00` (41_codec.md R171). -/
def execTxGetVersion (s : State) : Result :=
  .next (sendFrame (mkframe Config.tagGetVersion []) s)

/-- TX_GET_STATUS: `E0 03 01` (41_codec.md R172). -/
def execTxGetStatus (s : State) : Result :=
  .next (sendFrame (mkframe Config.tagGetStatus []) s)

/-- TX_SET_CONFIG_V1: the 27-byte frame of `LAYOUT_V1` (41_codec.md R174, R177). -/
def execTxSetConfigV1 (c : Cfg) (s : State) : Result :=
  .next (sendConfig Config.layoutV1 c s)

/-- TX_SET_CONFIG_V2: the 40-byte frame of `LAYOUT_V2` (41_codec.md R174, R177). -/
def execTxSetConfigV2 (c : Cfg) (s : State) : Result :=
  .next (sendConfig Config.layoutV2 c s)

/-- TX_SET_FREQ: the 13-byte frame (41_codec.md R173). -/
def execTxSetFreq (f : BitVec 32) (p : Byte) (s : State) : Result :=
  .next (armTracker .waitFreq (sendFrame (mkframe Config.tagSetFreq (freqPayload f p)) s))

end Sys2Proof.Machine
end

