-- ==== Sys2Proof/Machine/HostCommand.lean ====
section
/-! DEFINITION. Family H of the opcode table: the host commands (41_codec.md R171 to R175, R181; 42_fec_ber.md R235, R237;
70_reset_and_hazards.md R310). A refusal of the block is a next state. -/

namespace Sys2Proof.Machine

/-- CMD_GET_VERSION: never refused, arms nothing (41_codec.md R171). -/
def execCmdGetVersion (s : State) : Result :=
  execTxGetVersion s

/-- CMD_GET_STATUS: never refused, arms nothing (41_codec.md R172). -/
def execCmdGetStatus (s : State) : Result :=
  execTxGetStatus s

/-- CMD_SET_CONFIG: the three tests in the order of the rule, then the frame in the layout of the negotiated version
(41_codec.md R174, R181). -/
def execCmdSetConfig (c : Cfg) (s : State) : Result :=
  if awaiting s then .next (refuse .busy 0x02 s)
  else
    match s.protoVersion with
    | none => .next (refuse .notNegotiated 0x02 s)
    | some v =>
      if c.valid then
        match v with
        | .v1 => execTxSetConfigV1 c s
        | .v2 => execTxSetConfigV2 c s
      else .next (refuse .badOperand 0x02 s)

/-- CMD_SET_FREQ (41_codec.md R173). -/
def execCmdSetFreq (f : BitVec 32) (p : Byte) (s : State) : Result :=
  if awaiting s then .next (refuse .busy 0x04 s)
  else execTxSetFreq f p s

/-- CLOCK: one tick of all six banks; the timeouts that fire report and clear (42_fec_ber.md R235). -/
def execClock (s : State) : Result :=
  .next (report { report := clockReports s.ber } { s with ber := mapBanks s.ber bankTick })

/-- BER_READ: one report, no register changes; a reserved id is refused (42_fec_ber.md R237). -/
def execBerRead (id : BitVec 3) (s : State) : Result :=
  match checkerOfNumber id with
  | none => .next (refuse .badOperand id.toNat s)
  | some k =>
    .next (report
      { report := [mkReport s.ber k false], cause := if s.faultOvf then .counterOverflow else .none } s)

/-- RESET: every register to its reset value; the events still waiting at the ports are not the block's
(70_reset_and_hazards.md R310, 10_state.md R40). -/
def execReset (s : State) : Result :=
  .next { State.reset with pending := s.pending }

end Sys2Proof.Machine
end

