-- ==== Sys2Proof/Machine/Reserved.lean ====
section
/-! DEFINITION. The reserved host opcodes: each is refused with cause `BAD_OP` and the opcode as `info`
(30_encoding.md R104, 41_codec.md R181). -/

namespace Sys2Proof.Machine

/-- A reserved opcode: `cmd_status = REFUSED`, cause `BAD_OP`, `info` the opcode, no state change (30_encoding.md R104). -/
def refuseReserved (op : BitVec 8) (s : State) : State :=
  refuse .badOp op.toNat s

/-- RESERVED_03_03 (30_encoding.md R104). -/
def execReserved0303 (s : State) : Result :=
  .next (refuseReserved 0x03 s)

/-- RESERVED_05_05 (30_encoding.md R104). -/
def execReserved0505 (s : State) : Result :=
  .next (refuseReserved 0x05 s)

/-- RESERVED_06_07 (30_encoding.md R104). -/
def execReserved0607 (low : BitVec 1) (s : State) : Result :=
  .next (refuseReserved (0x3#7 ++ low) s)

/-- RESERVED_08_0F (30_encoding.md R104). -/
def execReserved080F (low : BitVec 3) (s : State) : Result :=
  .next (refuseReserved (0x1#5 ++ low) s)

/-- RESERVED_10_1F (30_encoding.md R104). -/
def execReserved101F (low : BitVec 4) (s : State) : Result :=
  .next (refuseReserved (0x1#4 ++ low) s)

/-- RESERVED_20_3F (30_encoding.md R104). -/
def execReserved203F (low : BitVec 5) (s : State) : Result :=
  .next (refuseReserved (0x1#3 ++ low) s)

/-- RESERVED_40_7F (30_encoding.md R104). -/
def execReserved407F (low : BitVec 6) (s : State) : Result :=
  .next (refuseReserved (0x1#2 ++ low) s)

/-- RESERVED_80_BF (30_encoding.md R104). -/
def execReserved80BF (low : BitVec 6) (s : State) : Result :=
  .next (refuseReserved (0x2#2 ++ low) s)

/-- RESERVED_C2_C3 (30_encoding.md R104). -/
def execReservedC2C3 (low : BitVec 1) (s : State) : Result :=
  .next (refuseReserved (0x61#7 ++ low) s)

/-- RESERVED_C4_C7 (30_encoding.md R104). -/
def execReservedC4C7 (low : BitVec 2) (s : State) : Result :=
  .next (refuseReserved (0x31#6 ++ low) s)

/-- RESERVED_C8_CB (30_encoding.md R104). -/
def execReservedC8CB (low : BitVec 2) (s : State) : Result :=
  .next (refuseReserved (0x32#6 ++ low) s)

/-- RESERVED_CC_CD (30_encoding.md R104). -/
def execReservedCCCD (low : BitVec 1) (s : State) : Result :=
  .next (refuseReserved (0x66#7 ++ low) s)

/-- RESERVED_CE_CE (30_encoding.md R104). -/
def execReservedCECE (s : State) : Result :=
  .next (refuseReserved 0xCE s)

/-- RESERVED_D0_DF (30_encoding.md R104). -/
def execReservedD0DF (low : BitVec 4) (s : State) : Result :=
  .next (refuseReserved (0xD#4 ++ low) s)

/-- RESERVED_E0_FF (30_encoding.md R104). -/
def execReservedE0FF (low : BitVec 5) (s : State) : Result :=
  .next (refuseReserved (0x7#3 ++ low) s)

end Sys2Proof.Machine
end

