-- ==== Sys2Proof/Machine/Codec.lean ====
section
/-! DEFINITION. The receive side of the codec: classification, the version decoder and the acknowledgement tracker
(41_codec.md R182 to R197). -/

namespace Sys2Proof.Machine

/-- The class of a type tag (41_codec.md R182, R183). -/
def classOfTag (t : Byte) : FrameClass :=
  if t = Config.tagAck then .ack
  else if t = Config.tagNak then .nak
  else if t = Config.tagGetVersion then .version
  else if t = Config.tagGetStatus then .status
  else if Config.codecTagLo ≤ t ∧ t ≤ Config.codecTagHi then .codecData
  else if Config.debugTagLo ≤ t ∧ t ≤ Config.debugTagHi then .debug
  else .other

/-- The output of the delivering step: the frame and its class (40_framer.md R141, 41_codec.md R184). -/
def deliver (f : List Byte) (c : FrameClass) (s : State) : State :=
  report { rxStatus := .frameDone, frame := some f, cls := some c } s

/-- The second half of `decode_version(f)`, once the version byte is known (41_codec.md R186). -/
def decodeBoard (f : List Byte) (v : ProtoVersion) (o : Nat) (s : State) : State :=
  if f.length < o then failDecode .malformedResponse f.length s
  else
    match board (f.drop o) with
    | none => failDecode .boardNotSupported 0 s
    | some h => { s with protoVersion := some v, hwType := some h }

/-- `decode_version(f)` (41_codec.md R186). The offsets are indices into the whole frame in both forms. DEDUCED, unsafe,
log 13. -/
def decodeVersion (f : List Byte) (s : State) : State :=
  match f[Config.versionByteOffset]? with
  | none => failDecode .malformedResponse f.length s
  | some v =>
    if v = 1 then decodeBoard f .v1 Config.descOffsetV1 s
    else if v = 2 then decodeBoard f .v2 Config.descOffsetV2 s
    else failDecode .unsupportedVersion v.toNat s

/-- `acked()` (41_codec.md R193). -/
def acked (s : State) : State :=
  { s with
    cfgCommitted := if s.ackWait = .waitConfig then s.cfgPending else s.cfgCommitted
    ackWait := .idle
    ackTries := 0
    out := { s.out with link := .acked } }

/-- `naked(f)` (41_codec.md R194). -/
def naked (f : List Byte) (s : State) : State :=
  { s with
    cfgPending := s.cfgCommitted
    ackWait := .idle
    ackTries := 0
    out := { s.out with link := .naked, linkInfo := f[Config.nakReasonOffset]? } }

/-- `unresponsive()` (41_codec.md R196). -/
def unresponsive (s : State) : State :=
  { s with
    cfgPending := s.cfgCommitted
    ackWait := .idle
    ackTries := 0
    out := { s.out with link := .unresponsive } }

/-- `failed_attempt()` (41_codec.md R195). -/
def failedAttempt (s : State) : State :=
  if s.ackTries + 1 = Config.ackMaxTries then unresponsive s
  else { s with ackTries := s.ackTries + 1 }

/-- `track` on the report, class and frame of the step's output: while a command is awaited, every report but
`CONTINUE` is one attempt (41_codec.md R192). With nothing awaited an ACK or NAK changes nothing (R197). -/
def track (s : State) : State :=
  if awaiting s && endsPoll s.out.rxStatus then
    match s.out.cls, s.out.frame with
    | some .ack, _ => acked s
    | some .nak, some f => naked f s
    | _, _ => failedAttempt s
  else s

end Sys2Proof.Machine
end

