-- ==== Sys2Proof/Machine/ReceivedFrame.lean ====
section
/-! DEFINITION. Family FR of the opcode table: what the codec and the checker bank do with a delivered frame, row by
row, and the delivery itself (41_codec.md R184). The framer has already gone back to its start (40_framer.md R141). -/

namespace Sys2Proof.Machine

/-- The dispatch of a delivered frame of class `c`, in the order of 41_codec.md R184: the frame and class in the
output, the version decoder, the tracker, the checker bank. -/
def dispatchFrame (c : FrameClass) (f : List Byte) (s : State) : State :=
  let s1 := deliver f c s
  let s2 := if c = .version then decodeVersion f s1 else s1
  let s3 := track s2
  if c = .codecData then berDispatch f s3 else s3

/-- RX_VERSION: class version, decoded as a version response (41_codec.md R186). -/
def execRxVersion (f : List Byte) (s : State) : Result :=
  .next (dispatchFrame .version f s)

/-- RX_STATUS: class status, passed through (41_codec.md R189). -/
def execRxStatus (f : List Byte) (s : State) : Result :=
  .next (dispatchFrame .status f s)

/-- RX_OTHER_02_03: class other, passed through (41_codec.md R189). -/
def execRxOther0203 (f : List Byte) (s : State) : Result :=
  .next (dispatchFrame .other f s)

/-- RX_OTHER_04_07: class other, passed through (41_codec.md R189). -/
def execRxOther0407 (f : List Byte) (s : State) : Result :=
  .next (dispatchFrame .other f s)

/-- RX_OTHER_08_0F: class other, passed through (41_codec.md R189). -/
def execRxOther080F (f : List Byte) (s : State) : Result :=
  .next (dispatchFrame .other f s)

/-- RX_CODEC_DATA_10_1F: class codecData, offered to the checker bank (42_fec_ber.md R233). -/
def execRxCodecData101F (f : List Byte) (s : State) : Result :=
  .next (dispatchFrame .codecData f s)

/-- RX_CODEC_DATA_20_3F: class codecData, offered to the checker bank (42_fec_ber.md R233). -/
def execRxCodecData203F (f : List Byte) (s : State) : Result :=
  .next (dispatchFrame .codecData f s)

/-- RX_CODEC_DATA_40_5F: class codecData, offered to the checker bank (42_fec_ber.md R233). -/
def execRxCodecData405F (f : List Byte) (s : State) : Result :=
  .next (dispatchFrame .codecData f s)

/-- RX_OTHER_60_6F: class other, passed through (41_codec.md R189). -/
def execRxOther606F (f : List Byte) (s : State) : Result :=
  .next (dispatchFrame .other f s)

/-- RX_ACK: class ack, ends a wait, or changes nothing (R197) (41_codec.md R193). -/
def execRxAck (f : List Byte) (s : State) : Result :=
  .next (dispatchFrame .ack f s)

/-- RX_OTHER_71_71: class other, passed through (41_codec.md R189). -/
def execRxOther7171 (f : List Byte) (s : State) : Result :=
  .next (dispatchFrame .other f s)

/-- RX_OTHER_72_73: class other, passed through (41_codec.md R189). -/
def execRxOther7273 (f : List Byte) (s : State) : Result :=
  .next (dispatchFrame .other f s)

/-- RX_OTHER_74_77: class other, passed through (41_codec.md R189). -/
def execRxOther7477 (f : List Byte) (s : State) : Result :=
  .next (dispatchFrame .other f s)

/-- RX_OTHER_78_7B: class other, passed through (41_codec.md R189). -/
def execRxOther787B (f : List Byte) (s : State) : Result :=
  .next (dispatchFrame .other f s)

/-- RX_OTHER_7C_7D: class other, passed through (41_codec.md R189). -/
def execRxOther7C7D (f : List Byte) (s : State) : Result :=
  .next (dispatchFrame .other f s)

/-- RX_OTHER_7E_7E: class other, passed through (41_codec.md R189). -/
def execRxOther7E7E (f : List Byte) (s : State) : Result :=
  .next (dispatchFrame .other f s)

/-- RX_NAK: class nak, rejects the awaited command, or changes nothing (R197) (41_codec.md R194). -/
def execRxNak (f : List Byte) (s : State) : Result :=
  .next (dispatchFrame .nak f s)

/-- RX_OTHER_80_BF: class other, passed through (41_codec.md R189). -/
def execRxOther80BF (f : List Byte) (s : State) : Result :=
  .next (dispatchFrame .other f s)

/-- RX_OTHER_C0_DF: class other, passed through (41_codec.md R189). -/
def execRxOtherC0DF (f : List Byte) (s : State) : Result :=
  .next (dispatchFrame .other f s)

/-- RX_OTHER_E0_EF: class other, passed through (41_codec.md R189). -/
def execRxOtherE0EF (f : List Byte) (s : State) : Result :=
  .next (dispatchFrame .other f s)

/-- RX_OTHER_F0_F0: class other, passed through (41_codec.md R189). -/
def execRxOtherF0F0 (f : List Byte) (s : State) : Result :=
  .next (dispatchFrame .other f s)

/-- RX_DEBUG_F1: class debug, passed through (41_codec.md R189). -/
def execRxDebugF1 (f : List Byte) (s : State) : Result :=
  .next (dispatchFrame .debug f s)

/-- RX_DEBUG_F2: class debug, passed through (41_codec.md R189). -/
def execRxDebugF2 (f : List Byte) (s : State) : Result :=
  .next (dispatchFrame .debug f s)

/-- RX_DEBUG_F3: class debug, passed through (41_codec.md R189). -/
def execRxDebugF3 (f : List Byte) (s : State) : Result :=
  .next (dispatchFrame .debug f s)

/-- RX_DEBUG_F4: class debug, passed through (41_codec.md R189). -/
def execRxDebugF4 (f : List Byte) (s : State) : Result :=
  .next (dispatchFrame .debug f s)

/-- RX_DEBUG_F5: class debug, passed through (41_codec.md R189). -/
def execRxDebugF5 (f : List Byte) (s : State) : Result :=
  .next (dispatchFrame .debug f s)

/-- RX_OTHER_F6_F7: class other, passed through (41_codec.md R189). -/
def execRxOtherF6F7 (f : List Byte) (s : State) : Result :=
  .next (dispatchFrame .other f s)

/-- RX_OTHER_F8_FF: class other, passed through (41_codec.md R189). -/
def execRxOtherF8FF (f : List Byte) (s : State) : Result :=
  .next (dispatchFrame .other f s)

/-- Runs the row of a received frame. Only rows of format FR are received frames; any other instruction here would be
the decoder's mistake and stops. -/
def runReceived (i : Instr) (s : State) : Result :=
  match i with
  | .rxVersion f => execRxVersion f s
  | .rxStatus f => execRxStatus f s
  | .rxOther0203 f => execRxOther0203 f s
  | .rxOther0407 f => execRxOther0407 f s
  | .rxOther080F f => execRxOther080F f s
  | .rxCodecData101F f => execRxCodecData101F f s
  | .rxCodecData203F f => execRxCodecData203F f s
  | .rxCodecData405F f => execRxCodecData405F f s
  | .rxOther606F f => execRxOther606F f s
  | .rxAck f => execRxAck f s
  | .rxOther7171 f => execRxOther7171 f s
  | .rxOther7273 f => execRxOther7273 f s
  | .rxOther7477 f => execRxOther7477 f s
  | .rxOther787B f => execRxOther787B f s
  | .rxOther7C7D f => execRxOther7C7D f s
  | .rxOther7E7E f => execRxOther7E7E f s
  | .rxNak f => execRxNak f s
  | .rxOther80BF f => execRxOther80BF f s
  | .rxOtherC0DF f => execRxOtherC0DF f s
  | .rxOtherE0EF f => execRxOtherE0EF f s
  | .rxOtherF0F0 f => execRxOtherF0F0 f s
  | .rxDebugF1 f => execRxDebugF1 f s
  | .rxDebugF2 f => execRxDebugF2 f s
  | .rxDebugF3 f => execRxDebugF3 f s
  | .rxDebugF4 f => execRxDebugF4 f s
  | .rxDebugF5 f => execRxDebugF5 f s
  | .rxOtherF6F7 f => execRxOtherF6F7 f s
  | .rxOtherF8FF f => execRxOtherF8FF f s
  | .rxerr _ _ | .rxb _ | .rxidle _ | .cmdGetVersion | .cmdGetStatus | .cmdSetConfig _
  | .cmdSetFreq _ _ | .clock | .berRead _ | .reset | .reserved0303 | .reserved0505
  | .reserved0607 _ | .reserved080F _ | .reserved101F _ | .reserved203F _ | .reserved407F _ | .reserved80BF _
  | .reservedC2C3 _ | .reservedC4C7 _ | .reservedC8CB _ | .reservedCCCD _ | .reservedCECE | .reservedD0DF _
  | .reservedE0FF _ | .txGetVersion | .txGetStatus | .txSetConfigV1 _ | .txSetConfigV2 _ | .txSetFreq _ _ => .fault (.noFrame .noRow)

/-- The delivery of a complete byte sequence in the step of its last byte (40_framer.md R141, 41_codec.md R184): its
row by marker and tag, and that row's meaning. -/
def receiveFrame (f : List Byte) (s : State) : Result :=
  match decodeReceived f with
  | .ok i => runReceived i s
  | .error e => .fault (.noFrame e)

end Sys2Proof.Machine
end

