-- ==== Sys2Proof/Machine/Transport.lean ====
section
/-! DEFINITION. Family T of the opcode table: the framer (40_framer.md R130 to R143). -/

namespace Sys2Proof.Machine

/-- A framing error at a length (60_exceptions.md R285); it ends a poll, so the tracker counts it (41_codec.md R192). -/
def invalidLength (v : Nat) (s : State) : State :=
  track (raiseError .protocolError .invalidLength v s)

/-- `RXB b` in `AwaitStart` (40_framer.md R131, R132). -/
def rxAwaitStart (b : Byte) (s : State) : State :=
  if b = Config.startMarker then
    { s with buf := Memory.write s.buf 0 b, rxOffset := 1, rxState := .awaitLength, out := {} }
  else report {} s

/-- `RXB b` in `AwaitLength` (40_framer.md R133 to R136). -/
def rxAwaitLength (b : Byte) (s : State) : State :=
  if Config.maxShortLen ≤ b.toNat then invalidLength b.toNat s
  else if b.toNat = Config.extLenEscape then
    { s with buf := Memory.write s.buf 1 b, rxOffset := 2, rxExt := true, rxState := .awaitExtLen, out := {} }
  else if b.toNat < Config.minFrameLen then invalidLength b.toNat s
  else
    { s with buf := Memory.write s.buf 1 b, rxLength := b.toNat, rxOffset := 2, rxState := .awaitType, out := {} }

/-- `RXB b` in `AwaitExtLen`: the high byte, then the low byte with the test of the length (40_framer.md R137, R138). -/
def rxAwaitExtLen (b : Byte) (s : State) : Result :=
  if s.rxOffset = 2 then
    .next { s with buf := Memory.write s.buf 2 b, rxOffset := 3, out := {} }
  else if s.rxOffset = 3 then
    if validExtLength (bigEndian16 (Memory.read s.buf 2) b) then
      .next { s with
        buf := Memory.write s.buf 3 b, rxLength := bigEndian16 (Memory.read s.buf 2) b, rxOffset := 4
        rxState := .awaitType, out := {} }
    else .next (invalidLength (bigEndian16 (Memory.read s.buf 2) b) s)
  else .fault .noFramerRule

/-- `complete()` on the state with the last byte stored: the framer goes back to its start and the frame is delivered
in the same step (40_framer.md R141). -/
def completeFrame (s : State) : Result :=
  receiveFrame (Memory.readRange s.buf 0 s.rxLength) (resetFramer s)

/-- `RXB b` in `AwaitType` and in `AwaitPayload`: the byte is stored; the last one completes the frame
(40_framer.md R139, R140). -/
def rxFrameByte (b : Byte) (s : State) : Result :=
  if s.rxOffset < Config.bufBytes then
    if s.rxOffset + 1 = s.rxLength then
      completeFrame { s with buf := Memory.write s.buf s.rxOffset b }
    else
      .next { s with
        buf := Memory.write s.buf s.rxOffset b, rxOffset := s.rxOffset + 1, rxState := .awaitPayload, out := {} }
  else .fault .bufferBounds

/-- RXB: the framer rule of `rx_state` (40_framer.md R130). -/
def execRxb (b : Byte) (s : State) : Result :=
  match s.rxState with
  | .awaitStart => .next (rxAwaitStart b s)
  | .awaitLength => .next (rxAwaitLength b s)
  | .awaitExtLen => rxAwaitExtLen b s
  | .awaitType => rxFrameByte b s
  | .awaitPayload => rxFrameByte b s

/-- RXIDLE: would block; the framer keeps its position, the tracker counts an attempt (40_framer.md R142,
41_codec.md R192). The data bits are ignored (30_encoding.md R100). -/
def execRxidle (_data : Byte) (s : State) : Result :=
  .next (track (report { rxStatus := .wouldBlock } s))

/-- RXERR: the transport's read failed; the current frame is aborted (40_framer.md R143). The other bits of the word
are ignored (30_encoding.md R100). -/
def execRxerr (_valid : Bool) (_data : Byte) (s : State) : Result :=
  .next (track (raiseError .transportError .transportReadError 0 s))

end Sys2Proof.Machine
end

