-- ==== Sys2Proof/Machine/Dispatch.lean ====
section
/-! DEFINITION. One arm per row of the opcode table, each a direct call of the row's meaning. -/

namespace Sys2Proof.Machine

/-- The meaning of an instruction. -/
def exec (i : Instr) (s : State) : Host.Outcome State Fault Refusal :=
  match i with
  -- format T
  | .rxerr valid data => Sys2Proof.Machine.execRxerr valid data s
  | .rxb data => Sys2Proof.Machine.execRxb data s
  | .rxidle data => Sys2Proof.Machine.execRxidle data s
  -- format H
  | .cmdGetVersion => Sys2Proof.Machine.execCmdGetVersion s
  | .cmdGetStatus => Sys2Proof.Machine.execCmdGetStatus s
  | .cmdSetConfig c => Sys2Proof.Machine.execCmdSetConfig c s
  | .cmdSetFreq f p => Sys2Proof.Machine.execCmdSetFreq f p s
  | .clock => Sys2Proof.Machine.execClock s
  | .berRead id => Sys2Proof.Machine.execBerRead id s
  | .reset => Sys2Proof.Machine.execReset s
  | .reserved0303 => Sys2Proof.Machine.execReserved0303 s
  | .reserved0505 => Sys2Proof.Machine.execReserved0505 s
  | .reserved0607 low => Sys2Proof.Machine.execReserved0607 low s
  | .reserved080F low => Sys2Proof.Machine.execReserved080F low s
  | .reserved101F low => Sys2Proof.Machine.execReserved101F low s
  | .reserved203F low => Sys2Proof.Machine.execReserved203F low s
  | .reserved407F low => Sys2Proof.Machine.execReserved407F low s
  | .reserved80BF low => Sys2Proof.Machine.execReserved80BF low s
  | .reservedC2C3 low => Sys2Proof.Machine.execReservedC2C3 low s
  | .reservedC4C7 low => Sys2Proof.Machine.execReservedC4C7 low s
  | .reservedC8CB low => Sys2Proof.Machine.execReservedC8CB low s
  | .reservedCCCD low => Sys2Proof.Machine.execReservedCCCD low s
  | .reservedCECE => Sys2Proof.Machine.execReservedCECE s
  | .reservedD0DF low => Sys2Proof.Machine.execReservedD0DF low s
  | .reservedE0FF low => Sys2Proof.Machine.execReservedE0FF low s
  -- format FS
  | .txGetVersion => Sys2Proof.Machine.execTxGetVersion s
  | .txGetStatus => Sys2Proof.Machine.execTxGetStatus s
  | .txSetConfigV1 c => Sys2Proof.Machine.execTxSetConfigV1 c s
  | .txSetConfigV2 c => Sys2Proof.Machine.execTxSetConfigV2 c s
  | .txSetFreq f p => Sys2Proof.Machine.execTxSetFreq f p s
  -- format FR
  | .rxVersion f => Sys2Proof.Machine.execRxVersion f s
  | .rxStatus f => Sys2Proof.Machine.execRxStatus f s
  | .rxOther0203 f => Sys2Proof.Machine.execRxOther0203 f s
  | .rxOther0407 f => Sys2Proof.Machine.execRxOther0407 f s
  | .rxOther080F f => Sys2Proof.Machine.execRxOther080F f s
  | .rxCodecData101F f => Sys2Proof.Machine.execRxCodecData101F f s
  | .rxCodecData203F f => Sys2Proof.Machine.execRxCodecData203F f s
  | .rxCodecData405F f => Sys2Proof.Machine.execRxCodecData405F f s
  | .rxOther606F f => Sys2Proof.Machine.execRxOther606F f s
  | .rxAck f => Sys2Proof.Machine.execRxAck f s
  | .rxOther7171 f => Sys2Proof.Machine.execRxOther7171 f s
  | .rxOther7273 f => Sys2Proof.Machine.execRxOther7273 f s
  | .rxOther7477 f => Sys2Proof.Machine.execRxOther7477 f s
  | .rxOther787B f => Sys2Proof.Machine.execRxOther787B f s
  | .rxOther7C7D f => Sys2Proof.Machine.execRxOther7C7D f s
  | .rxOther7E7E f => Sys2Proof.Machine.execRxOther7E7E f s
  | .rxNak f => Sys2Proof.Machine.execRxNak f s
  | .rxOther80BF f => Sys2Proof.Machine.execRxOther80BF f s
  | .rxOtherC0DF f => Sys2Proof.Machine.execRxOtherC0DF f s
  | .rxOtherE0EF f => Sys2Proof.Machine.execRxOtherE0EF f s
  | .rxOtherF0F0 f => Sys2Proof.Machine.execRxOtherF0F0 f s
  | .rxDebugF1 f => Sys2Proof.Machine.execRxDebugF1 f s
  | .rxDebugF2 f => Sys2Proof.Machine.execRxDebugF2 f s
  | .rxDebugF3 f => Sys2Proof.Machine.execRxDebugF3 f s
  | .rxDebugF4 f => Sys2Proof.Machine.execRxDebugF4 f s
  | .rxDebugF5 f => Sys2Proof.Machine.execRxDebugF5 f s
  | .rxOtherF6F7 f => Sys2Proof.Machine.execRxOtherF6F7 f s
  | .rxOtherF8FF f => Sys2Proof.Machine.execRxOtherF8FF f s

end Sys2Proof.Machine
end

