-- ==== Sys2Proof/Machine/Ports.lean ====
section
/-! DEFINITION. The two input ports (00_scope.md R7, 20_memory.md R62): taking the next event, and putting events there.
The notation of 30_encoding.md R111, R112 for sequences of events. -/

namespace Sys2Proof.Machine

/-- The next event in the order the host and the transport present them, and the state without it (20_memory.md R70). -/
def nextEvent (s : State) : Option (Event × State) :=
  match s.pending with
  | [] => none
  | e :: rest => some (e, { s with pending := rest })

/-- Puts an event first at the ports. -/
def present (e : Event) (s : State) : State :=
  { s with pending := e :: s.pending }

/-- `RXB b` as an event (30_encoding.md R111). -/
def rxbEvent (b : Byte) : Event :=
  .transport (transportWord false true b)

/-- `RXIDLE` as an event (30_encoding.md R111). -/
def rxidleEvent : Event :=
  .transport (transportWord false false 0)

/-- `RXERR` as an event (30_encoding.md R111). -/
def rxerrEvent : Event :=
  .transport (transportWord true false 0)

/-- `CLOCK` as an event (30_encoding.md R111). -/
def clockEvent : Event :=
  .host 0xC0 {}

/-- `RXCHUNK`: one transport read that returned those bytes (30_encoding.md R112, 20_memory.md R62). -/
def rxChunk (bytes : List Byte) : List Event :=
  bytes.map rxbEvent

/-- `RXFRAME t p`: one well-formed short frame (30_encoding.md R112). The rule defines it only where
`3 + |p| < 250`; for a longer payload the events are those of `mkframe`, whose length byte wraps. DESIGN CHOICE, safe,
log 15. -/
def rxFrame (t : Byte) (p : List Byte) : List Event :=
  rxChunk (mkframe t p)

/-- Puts the framer where only the last byte of `f` is missing, and that byte first at the transport port. -/
def presentFrame (f : List Byte) (s : State) : State :=
  present (rxbEvent (f.getLastD 0))
    { s with
      rxState := if f.length ≤ headerLength f then .awaitType else .awaitPayload
      rxOffset := f.length - 1
      rxLength := f.length
      rxExt := isExtended f
      buf := Memory.writeRange [] 0 f.dropLast }

/-- The state with no command awaited (41_codec.md R191). -/
def disarm (s : State) : State :=
  { s with ackWait := .idle, ackTries := 0, cfgPending := s.cfgCommitted }

/-- Puts the instruction of a decoded sent frame where the next step runs it: the host command that sends the frame goes
to the host port, with the tracker idle and the version negotiated where the command needs it (41_codec.md R173, R174). -/
def presentSent (i : Instr) (s : State) : State :=
  match i with
  | .txGetVersion => present (.host 0x00 {}) s
  | .txGetStatus => present (.host 0x01 {}) s
  | .txSetConfigV1 c => present (.host 0x02 { cfg := c }) { disarm s with protoVersion := some .v1 }
  | .txSetConfigV2 c => present (.host 0x02 { cfg := c }) { disarm s with protoVersion := some .v2 }
  | .txSetFreq f p => present (.host 0x04 { freq := f, power := p }) (disarm s)
  | _ => s

/-- Puts the instruction of a table word where the next step runs it (log 8). An event word goes to its port. A
received-frame row runs in the step of its frame's last byte, so the rest of the frame is put in the buffer. -/
def presentWord (iw : InstrWord) (s : State) : State :=
  match iw with
  | .event e => present e s
  | .received f => presentFrame f s
  | .sent hdr x =>
    match decodeSent hdr x with
    | .ok i => presentSent i s
    | .error _ => s

end Sys2Proof.Machine
end

