-- ==== Sys2Proof/Machine/Step.lean ====
section
/-! DEFINITION. One step of the block: it takes the first waiting event, decodes it and runs it (00_scope.md R7). -/

namespace Sys2Proof.Machine

/-- A step of the block. With no event waiting at either port nothing happens: the block keeps all its state
(60_exceptions.md R294). DEDUCED, unsafe, log 4. -/
def step (s : State) : Host.Outcome State Fault Refusal :=
  match nextEvent s with
  | none => .next s
  | some (e, s') =>
    match decodeEvent e with
    | .ok i => exec i s'
    | .error err => .refused (.undecodable err)

/-- Sets what it takes for the next step to run the instruction of a table word (DESIGN CHOICE, unsafe, log 8). A number that is no
instruction of the table changes nothing. -/
def State.withFetchWord (s : State) (nbits w : Nat) : State :=
  match tableWord nbits w with
  | none => s
  | some iw => presentWord iw s

end Sys2Proof.Machine
end

