-- ==== Sys2Proof/Safety.lean ====
section
/-! DEFINITION. What holds in every state a run from reset reaches, and runs over sequences of events, in the terms the
claims use. -/

namespace Sys2Proof.Safety

open Sys2Proof.Machine

/-- `rx_length` is a valid length of its form (10_state.md R26). -/
def LengthValid (s : State) : Prop :=
  if s.rxExt then Config.minExtLen ≤ s.rxLength ∧ s.rxLength ≤ Config.maxExtLen
  else Config.minFrameLen ≤ s.rxLength ∧ s.rxLength < Config.maxShortLen

/-- The table of 10_state.md R26. -/
def FramerTable (s : State) : Prop :=
  match s.rxState with
  | .awaitStart => s.rxOffset = 0 ∧ s.rxExt = false ∧ s.rxLength = 0
  | .awaitLength => s.rxOffset = 1 ∧ s.rxExt = false ∧ s.rxLength = 0
  | .awaitExtLen => (s.rxOffset = 2 ∨ s.rxOffset = 3) ∧ s.rxExt = true ∧ s.rxLength = 0
  | .awaitType => s.rxOffset = (if s.rxExt then 4 else 2) ∧ LengthValid s
  | .awaitPayload => (if s.rxExt then 5 else 3) ≤ s.rxOffset ∧ s.rxOffset < s.rxLength ∧ LengthValid s

/-- The start marker at index 0 and the short length byte at index 1, once stored (10_state.md R26). In the extended
form the short length byte is `EXT_LEN_ESCAPE`. -/
def MarkerAndLength (s : State) : Prop :=
  (1 ≤ s.rxOffset → Memory.read s.buf 0 = Config.startMarker) ∧
  (2 ≤ s.rxOffset → Memory.read s.buf 1 = if s.rxExt then 0 else BitVec.ofNat 8 s.rxLength)

/-- In the extended form the bytes at 2 and 3, once stored, are the length (20_memory.md R61, R64). -/
def BufferHolds (s : State) : Prop :=
  s.rxExt = true → 4 ≤ s.rxOffset → bigEndian16 (Memory.read s.buf 2) (Memory.read s.buf 3) = s.rxLength

/-- The framer invariants: those of 10_state.md R26, and the length bytes behind them. -/
def FramerInv (s : State) : Prop :=
  FramerTable s ∧ MarkerAndLength s ∧ BufferHolds s

/-- The tracker invariants (41_codec.md R191). -/
def TrackerInv (s : State) : Prop :=
  (s.ackWait = .idle → s.ackTries = 0 ∧ s.cfgPending = s.cfgCommitted) ∧
  (s.ackWait = .waitFreq → s.cfgPending = s.cfgCommitted) ∧
  s.ackTries < Config.ackMaxTries

/-- Both configuration registers hold a value of the type `Config` (10_state.md R31). -/
def CfgInv (s : State) : Prop :=
  s.cfgCommitted.valid ∧ s.cfgPending.valid

/-- `proto_version` and `hw_type` are written together (10_state.md R27, R28). -/
def VersionInv (s : State) : Prop :=
  s.protoVersion.isSome = s.hwType.isSome

/-- The ranges and the timeout invariants of one bank (10_state.md R36, R37; 60_exceptions.md R290). -/
def BankRanges (b : BerBank) : Prop :=
  b.bits ≤ Config.cntMax ∧ b.errors ≤ Config.cntMax ∧ b.frames ≤ Config.cntMax ∧
  b.timer ≤ Config.berTimeoutTicks ∧
  (b.running = false → b.timer = 0) ∧ (b.running = true → 1 ≤ b.timer)

/-- What the counters of one bank satisfy (42_fec_ber.md R236, R238): no more errors than bits; a bank that is not
running holds no counts, a running one has bits and frames. -/
def BankCounts (b : BerBank) : Prop :=
  b.errors ≤ b.bits ∧
  (b.running = false → b.bits = 0 ∧ b.errors = 0 ∧ b.frames = 0) ∧
  (b.running = true → 1 ≤ b.bits ∧ 1 ≤ b.frames)

/-- The invariants of the BER bank. -/
def BerInv (s : State) : Prop :=
  ∀ id : CheckerId, BankRanges (bankOf s.ber id) ∧ BankCounts (bankOf s.ber id)

/-- What every state that a run from reset reaches satisfies. -/
structure Inv (s : State) : Prop where
  framer : FramerInv s
  buffer : Memory.wf s.buf
  tracker : TrackerInv s
  cfg : CfgInv s
  version : VersionInv s
  ber : BerInv s

/-! ## Runs -/

/-- Presents the events one after the other and runs a step for each: the last state and the output record of every
step; none where a step does not answer a next state. -/
def feed : List Event → State → Option (State × List Output)
  | [], s => some (s, [])
  | e :: es, s =>
    match step (present e s) with
    | .next t =>
      match feed es t with
      | some (u, os) => some (u, t.out :: os)
      | none => none
    | _ => none

/-- `RXIDLE`: a transport word with neither `err` nor `valid` (30_encoding.md R100). -/
def isIdleEvent : Event → Bool
  | .transport w => !w.getLsbD 9 && !w.getLsbD 8
  | .host _ _ => false

/-- `CLOCK`, whatever operands stand beside the opcode (30_encoding.md R102). -/
def isClockEvent : Event → Bool
  | .transport _ => false
  | .host op _ => op == 0xC0

/-- `RESET`, whatever operands stand beside the opcode (30_encoding.md R102). -/
def isResetEvent : Event → Bool
  | .transport _ => false
  | .host op _ => op == 0xCF

/-- The score of a delivered frame for one checker, as (errors, bits): none when another checker or none is selected,
or the checker does not score the frame (42_fec_ber.md R233). -/
def scoreFor (id : CheckerId) (mode : Byte) (f : List Byte) : List (Nat × Nat) :=
  match scoreFrame Config.checkerSelect Config.subtypeOf Config.checkerDesc mode f with
  | some (k, errs, nbits) => if k = id then [(errs, nbits)] else []
  | none => []

/-- The scores for one checker of the frames that a run over events delivers, first one first: each with the
configuration committed before its step (42_fec_ber.md R233, R240). -/
def scoresOf (id : CheckerId) : List Event → State → List (Nat × Nat)
  | [], _ => []
  | e :: es, s =>
    match step (present e s) with
    | .next t =>
      match t.out.cls, t.out.frame with
      | some .codecData, some f => scoreFor id (modeByte s.cfgCommitted) f ++ scoresOf id es t
      | _, _ => scoresOf id es t
    | _ => []

/-- The framer's registers (10_state.md R20). -/
def framerView (s : State) : RxState × Nat × Nat × Bool × List Host.Cell :=
  (s.rxState, s.rxOffset, s.rxLength, s.rxExt, s.buf)

/-- The framer's part of the output record (00_scope.md R8). -/
def framerReport (o : Output) : RxStatus × Option (List Byte) × Option FrameClass :=
  (o.rxStatus, o.frame, o.cls)

/-- Every register of the block, the output record and the waiting events put aside (10_state.md R20). -/
def registers (s : State) : State :=
  { s with out := {}, pending := [] }

end Sys2Proof.Safety
end

