-- ==== Sys2Proof/Certificates/Slice0/Obligations.lean ====
section
/-! DEFINITION. The statements for the provers, and the terms they are written in.
A number written in a statement is the default of its parameter (00_scope.md R5; DESIGN CHOICE, unsafe, log 7):
224 or E0 is START_MARKER, 250 MAX_SHORT_LEN, 3 MIN_FRAME_LEN, 0 EXT_LEN_ESCAPE, 5 MIN_EXT_LEN, 65535 MAX_EXT_LEN
and BUF_BYTES, 30 ACK_MAX_TRIES, 2^32 - 1 the largest counter of width CNT_W, 27, 40 and 13 the sizes of the sent
configuration and frequency frames, and a tag byte the tag of its frame. -/

open Sys2Proof Sys2Proof.Machine Sys2Proof.Safety

namespace Sys2Proof.Claims

/-- A transport-receive step that ended a poll without an ACK or NAK: nothing while no command is awaited, else one
more attempt, the thirtieth giving up (41_codec.md R192, R195, R196). -/
def attempted (s : State) : State :=
  if s.ackWait = .idle then s
  else if s.ackTries + 1 = 30 then
    { s with cfgPending := s.cfgCommitted, ackWait := .idle, ackTries := 0, out := { s.out with link := .unresponsive } }
  else { s with ackTries := s.ackTries + 1 }

/-- A framing or transport error: the four framer registers back at the start, and its report (60_exceptions.md R285). -/
def aborted (r : RxStatus) (c : Cause) (info : Nat) (s : State) : State :=
  { s with
    rxState := .awaitStart, rxOffset := 0, rxLength := 0, rxExt := false,
    out := { rxStatus := r, cause := c, info := info } }

/-- The output of a step that delivers a frame, with nothing else reported (40_framer.md R141, 41_codec.md R184). -/
def delivered (f : List Byte) (c : FrameClass) (s : State) : State :=
  { s with out := { rxStatus := .frameDone, frame := some f, cls := some c } }

/-- A refused host command (41_codec.md R181). -/
def refused (c : Cause) (info : Nat) (s : State) : State :=
  { s with out := { cmdStatus := .refused, cause := c, info := info } }

/-- The state after a failed version decode (41_codec.md R186). -/
def failed (c : Cause) (info : Nat) (s : State) : State :=
  { s with out := { s.out with cause := c, info := info } }

/-- The version decoder, written out with the default offsets and prefixes (41_codec.md R186, R187). -/
def versionDecoded (f : List Byte) (s : State) : State :=
  if f.length ≤ 3 then failed .malformedResponse f.length s
  else if f.getD 3 0 ≠ 1 ∧ f.getD 3 0 ≠ 2 then failed .unsupportedVersion (f.getD 3 0).toNat s
  else if f.length < (if f.getD 3 0 = 1 then 4 else 23) then failed .malformedResponse f.length s
  else if [0x5A, 0x55, 0x4D, 0x73, 0x70, 0x6F, 0x74].isPrefixOf (f.drop (if f.getD 3 0 = 1 then 4 else 23)) then
    { s with protoVersion := some (if f.getD 3 0 = 1 then .v1 else .v2), hwType := some .hotspotVariant }
  else if [0x4D, 0x4D, 0x44, 0x56, 0x4D, 0x20].isPrefixOf (f.drop (if f.getD 3 0 = 1 then 4 else 23)) then
    { s with protoVersion := some (if f.getD 3 0 = 1 then .v1 else .v2), hwType := some .generic }
  else failed .boardNotSupported 0 s

/-- One more scored frame in a bank, or the overflow that leaves the bank alone (42_fec_ber.md R234, R239). -/
def accumulated (id : CheckerId) (errs nbits : Nat) (s : State) : State :=
  if (bankOf s.ber id).errors + errs > 2 ^ 32 - 1 ∨ (bankOf s.ber id).bits + nbits > 2 ^ 32 - 1
      ∨ (bankOf s.ber id).frames + 1 > 2 ^ 32 - 1 then
    { s with faultOvf := true, out := { s.out with cause := .counterOverflow, info := checkerNumber id } }
  else
    { s with
      ber := setBank s.ber id
        { bits := (bankOf s.ber id).bits + nbits, errors := (bankOf s.ber id).errors + errs,
          frames := (bankOf s.ber id).frames + 1, timer := Config.berTimeoutTicks, running := true } }

/-- A frame offered to the checker bank, after its delivery and its attempt of an awaited command: a selected checker
that scores it accumulates the score, else nothing more happens (42_fec_ber.md R233). -/
def scored (f : List Byte) (s : State) : State :=
  match frameTag f with
  | none => attempted (delivered f .codecData s)
  | some t =>
    match Config.checkerSelect (BitVec.ofInt 8 s.cfgCommitted.mode) t with
    | none => attempted (delivered f .codecData s)
    | some id =>
      match checkFrame (Config.checkerDesc id) (Config.subtypeOf t) (framePayload f) with
      | none => attempted (delivered f .codecData s)
      | some (errs, nbits) => accumulated id errs nbits (attempted (delivered f .codecData s))

/-- A received-frame row that passes its frame through with class `c`. -/
def PassesThrough (row : List Byte → Instr) (c : FrameClass) : Prop :=
  ∀ f s, exec (row f) s = .next (attempted (delivered f c s))

/-- A received-frame row that offers its frame to the checker bank. -/
def OffersToBank (row : List Byte → Instr) : Prop :=
  ∀ f s, exec (row f) s = .next (scored f s)

/-- The report of a bank (42_fec_ber.md R236). -/
def bankReport (b : BerBanks) (id : CheckerId) (final : Bool) : BerReport where
  id := id
  errors := (bankOf b id).errors
  bits := (bankOf b id).bits
  frames := (bankOf b id).frames
  final := final
  rate := if (bankOf b id).bits = 0 then .noData
    else .percent ((100 * (bankOf b id).errors : Rat) / ((bankOf b id).bits : Rat))

/-- The reset table of 10_state.md R40, the buffer's unspecified bytes apart. -/
def ResetTable (t : State) : Prop :=
  t.rxState = .awaitStart ∧ t.rxOffset = 0 ∧ t.rxLength = 0 ∧ t.rxExt = false ∧
  t.protoVersion = none ∧ t.hwType = none ∧ t.cfgCommitted = Config.cfgInit ∧ t.cfgPending = Config.cfgInit ∧
  t.ackWait = .idle ∧ t.ackTries = 0 ∧
  (∀ id, bankOf t.ber id = { bits := 0, errors := 0, frames := 0, timer := 0, running := false }) ∧
  t.faultOvf = false

/-- The table of 60_exceptions.md R282: what each event can report. The rows of sent and received frames are no events. -/
def ReportAllowed (i : Instr) (s : State) (o : Output) : Prop :=
  match i with
  | .rxb _ =>
    (o.rxStatus = .cont ∨ o.rxStatus = .frameDone ∨ o.rxStatus = .protocolError) ∧
    (o.cause = .none ∨ o.cause = .invalidLength ∨
      (o.rxStatus = .frameDone ∧ (o.cause = .unsupportedVersion ∨ o.cause = .boardNotSupported
        ∨ o.cause = .malformedResponse ∨ o.cause = .counterOverflow))) ∧
    (o.link ≠ .none → s.ackWait ≠ .idle ∧ o.rxStatus ≠ .cont)
  | .rxidle _ => o.rxStatus = .wouldBlock ∧ o.cause = .none ∧ (o.link = .none ∨ o.link = .unresponsive)
  | .rxerr _ _ =>
    o.rxStatus = .transportError ∧ o.cause = .transportReadError ∧ (o.link = .none ∨ o.link = .unresponsive)
  | .cmdGetVersion | .cmdGetStatus | .clock | .reset => o.rxStatus = .cont ∧ o.cause = .none ∧ o.link = .none
  | .cmdSetFreq _ _ => o.rxStatus = .cont ∧ (o.cause = .none ∨ o.cause = .busy) ∧ o.link = .none
  | .cmdSetConfig _ =>
    o.rxStatus = .cont ∧ (o.cause = .none ∨ o.cause = .busy ∨ o.cause = .notNegotiated ∨ o.cause = .badOperand) ∧
    o.link = .none
  | .berRead _ =>
    o.rxStatus = .cont ∧ (o.cause = .none ∨ o.cause = .badOperand ∨ o.cause = .counterOverflow) ∧ o.link = .none
  | .reserved0303 | .reserved0505 | .reserved0607 _ | .reserved080F _ | .reserved101F _ | .reserved203F _ | .reserved407F _ | .reserved80BF _
  | .reservedC2C3 _ | .reservedC4C7 _ | .reservedC8CB _ | .reservedCCCD _ | .reservedCECE | .reservedD0DF _ | .reservedE0FF _ =>
    o.rxStatus = .cont ∧ o.cause = .badOp ∧ o.link = .none
  | .txGetVersion | .txGetStatus | .txSetConfigV1 _ | .txSetConfigV2 _ | .txSetFreq _ _ => True
  | .rxVersion _ | .rxStatus _ | .rxOther0203 _ | .rxOther0407 _ | .rxOther080F _ | .rxCodecData101F _ | .rxCodecData203F _
  | .rxCodecData405F _ | .rxOther606F _ | .rxAck _ | .rxOther7171 _ | .rxOther7273 _ | .rxOther7477 _ | .rxOther787B _
  | .rxOther7C7D _ | .rxOther7E7E _ | .rxNak _ | .rxOther80BF _ | .rxOtherC0DF _ | .rxOtherE0EF _ | .rxOtherF0F0 _
  | .rxDebugF1 _ | .rxDebugF2 _ | .rxDebugF3 _ | .rxDebugF4 _ | .rxDebugF5 _ | .rxOtherF6F7 _ | .rxOtherF8FF _ => True

/-- The tag and the length of the frame that an instruction sends; every other instruction sends none (30_encoding.md
R105, 41_codec.md R171 to R174). -/
def SentBy (i : Instr) (s : State) (f : List Byte) : Prop :=
  match i with
  | .cmdGetVersion | .txGetVersion => frameTag f = some 0x00 ∧ f.length = 3
  | .cmdGetStatus | .txGetStatus => frameTag f = some 0x01 ∧ f.length = 3
  | .cmdSetConfig _ => frameTag f = some 0x02 ∧ f.length = if s.protoVersion = some .v1 then 27 else 40
  | .txSetConfigV1 _ => frameTag f = some 0x02 ∧ f.length = 27
  | .txSetConfigV2 _ => frameTag f = some 0x02 ∧ f.length = 40
  | .cmdSetFreq _ _ | .txSetFreq _ _ => frameTag f = some 0x04 ∧ f.length = 13
  | _ => False

/-- Some `final` report of the checker stands in the outputs of a run (42_fec_ber.md R235, R236). -/
def fired (id : CheckerId) (os : List Output) : Bool :=
  os.any (fun o => o.report.any (fun r => r.id == id && r.final))

end Sys2Proof.Claims

open Sys2Proof.Claims

/-- A step runs the decoded instruction (00_scope.md R7). The case of no waiting event is the model's choice (log 4). -/
def Obligations.StepRunsTheDecodedEvent : Prop :=
  (∀ e, ∃ i, decodeEvent e = .ok i) ∧
  (∀ s e rest i, s.pending = e :: rest → decodeEvent e = .ok i → step s = exec i { s with pending := rest }) ∧
  (∀ s : State, s.pending = [] → step s = .next s)

/-- Words of every format, written out from 30_encoding.md R100 to R105 and R113. -/
def Obligations.WordsDecodeToTheirRows : Prop :=
  decode (.event (.transport 0x1E0)) = .ok (.rxb 0xE0) ∧
  decode (.event (.transport 0x000)) = .ok (.rxidle 0x00) ∧
  decode (.event (.transport 0x200)) = .ok (.rxerr false 0x00) ∧
  decode (.event (.transport 0x3FF)) = .ok (.rxerr true 0xFF) ∧
  decode (.event (.host 0x00 {})) = .ok .cmdGetVersion ∧
  decode (.event (.host 0x02 { cfg := { mode := 99 } })) = .ok (.cmdSetConfig { mode := 99 }) ∧
  decode (.event (.host 0x04 { freq := 433000000, power := 0xFF })) = .ok (.cmdSetFreq 433000000 0xFF) ∧
  decode (.event (.host 0xC1 { id := 6 })) = .ok (.berRead 6) ∧
  decode (.event (.host 0xCF {})) = .ok .reset ∧
  decode (.event (.host 0x07 {})) = .ok (.reserved0607 1) ∧
  decode (.event (.host 0xFF {})) = .ok (.reservedE0FF 31) ∧
  decode (.sent 0xE00300 {}) = .ok .txGetVersion ∧
  decode (.sent 0xE01B02 {}) = .ok (.txSetConfigV1 {}) ∧
  decode (.sent 0xE00D04 { freq := 1, power := 2 }) = .ok (.txSetFreq 1 2) ∧
  decode (.received [0xE0, 0x03, 0x70]) = .ok (.rxAck [0xE0, 0x03, 0x70]) ∧
  decode (.received [0xE0, 0x00, 0x00, 0x05, 0xF1]) = .ok (.rxDebugF1 [0xE0, 0x00, 0x00, 0x05, 0xF1]) ∧
  decode (.received [0xE0, 0x04, 0x3F, 0x00]) = .ok (.rxCodecData203F [0xE0, 0x04, 0x3F, 0x00])

/-- 30_encoding.md R100. -/
def Obligations.TransportWordDecode : Prop :=
  ∀ w : BitVec 10,
    (w &&& 0x200 = 0x200 → ∃ v d, decode (.event (.transport w)) = .ok (.rxerr v d)) ∧
    (w &&& 0x300 = 0x100 → decode (.event (.transport w)) = .ok (.rxb (w.extractLsb' 0 8))) ∧
    (w &&& 0x300 = 0x000 → ∃ d, decode (.event (.transport w)) = .ok (.rxidle d)) ∧
    encode (decodeTransport w) = .event (.transport w)

/-- Within format H and within format FR the rows are disjoint and cover every value (30_encoding.md R113). -/
def Obligations.RowsPartitionOpcodesAndTags : Prop :=
  (∀ op : BitVec 8, (hostTable.filter (fun r => op &&& r.mask == r.pattern)).length = 1) ∧
  (∀ t : Byte, (receivedTable.filter (fun r => t &&& r.mask == r.pattern)).length = 1)

/-- Decode and encode agree on all 58 rows (30_encoding.md R100 to R105, R113). -/
def Obligations.DecodeOfEncode : Prop :=
  (∀ i : Instr, i.wf = true → decode (encode i) = .ok i) ∧
  (∀ i j : Instr, i.wf = true → j.wf = true → encode i = encode j → i = j)

/-- Classification is total and by tag alone (41_codec.md R182 to R184). -/
def Obligations.ReceivedFrameRunsTheRowOfItsTag : Prop :=
  ∀ (f : List Byte) (t : Byte) (s : State), f[0]? = some 0xE0 →
    f[if f[1]? = some 0 then 4 else 2]? = some t →
    ∃ i u, decode (.received f) = .ok i ∧ exec i s = .next u ∧
      u.out.rxStatus = .frameDone ∧ u.out.frame = some f ∧
      u.out.cls = some (
        if t = 0x70 then .ack else if t = 0x7F then .nak else if t = 0x00 then .version else if t = 0x01 then .status
        else if 0x10 ≤ t ∧ t ≤ 0x5F then .codecData else if 0xF1 ≤ t ∧ t ≤ 0xF5 then .debug else .other)

/-- 70_reset_and_hazards.md R310 with the table of 10_state.md R40. That the waiting events are kept is the model's choice
(DESIGN CHOICE, log 4), and so is the idle output of `State.reset` (DESIGN CHOICE, log 3). -/
def Obligations.ResetRestoresEveryRegister : Prop :=
  ResetTable State.reset ∧ State.reset.out = {} ∧
  ∀ s : State, ∃ t, exec .reset s = .next t ∧ ResetTable t ∧ t.out = {} ∧ t.pending = s.pending

/-- The model's choice for the unspecified buffer bytes of 10_state.md R40 (DESIGN CHOICE, unsafe, log 1). -/
def Obligations.BufferReadsZeroAfterReset : Prop :=
  (∀ a, Memory.read State.reset.buf a = 0x00) ∧
  ∀ s : State, ∃ t, exec .reset s = .next t ∧ ∀ a, Memory.read t.buf a = 0x00

/-- 40_framer.md R131 and R132. -/
def Obligations.StartByteOpensAFrameOrIsNoise : Prop :=
  ∀ (b : Byte) (s : State), s.rxState = .awaitStart →
    exec (.rxb b) s = .next (
      if b = 0xE0 then { s with buf := Memory.write s.buf 0 b, rxOffset := 1, rxState := .awaitLength, out := {} }
      else { s with out := {} })

/-- 40_framer.md R133 to R136; the attempt of an awaited command is 41_codec.md R192. -/
def Obligations.LengthByteDecidesTheForm : Prop :=
  ∀ (b : Byte) (s : State), s.rxState = .awaitLength →
    exec (.rxb b) s = .next (
      if 250 ≤ b.toNat then attempted (aborted .protocolError .invalidLength b.toNat s)
      else if b.toNat = 0 then
        { s with buf := Memory.write s.buf 1 b, rxOffset := 2, rxExt := true, rxState := .awaitExtLen, out := {} }
      else if b.toNat < 3 then attempted (aborted .protocolError .invalidLength b.toNat s)
      else
        { s with buf := Memory.write s.buf 1 b, rxLength := b.toNat, rxOffset := 2, rxState := .awaitType, out := {} })

/-- 40_framer.md R137 and R138; the attempt of an awaited command is 41_codec.md R192. -/
def Obligations.ExtendedLengthIsBigEndianAndBounded : Prop :=
  (∀ (b : Byte) (s : State), s.rxState = .awaitExtLen → s.rxOffset = 2 →
    exec (.rxb b) s = .next { s with buf := Memory.write s.buf 2 b, rxOffset := 3, out := {} }) ∧
  (∀ (b hi : Byte) (s : State), s.rxState = .awaitExtLen → s.rxOffset = 3 → Memory.read s.buf 2 = hi →
    exec (.rxb b) s = .next (
      if hi.toNat * 256 + b.toNat < 5 ∨ hi.toNat * 256 + b.toNat > 65535 then
        attempted (aborted .protocolError .invalidLength (hi.toNat * 256 + b.toNat) s)
      else
        { s with
          buf := Memory.write s.buf 3 b, rxLength := hi.toNat * 256 + b.toNat, rxOffset := 4, rxState := .awaitType,
          out := {} }))

/-- 40_framer.md R139 and R140, with `complete()` of R141. -/
def Obligations.TypeAndPayloadBytesAreStoredOrComplete : Prop :=
  ∀ (b : Byte) (s : State) (i : Instr), s.rxState = .awaitType ∨ s.rxState = .awaitPayload →
    s.rxOffset < 65535 → decode (.received (Memory.readRange s.buf 0 s.rxOffset ++ [b])) = .ok i →
    exec (.rxb b) s =
      if s.rxOffset + 1 = s.rxLength then
        exec i { s with
          buf := Memory.write s.buf s.rxOffset b, rxState := .awaitStart, rxOffset := 0, rxLength := 0, rxExt := false }
      else
        .next { s with
          buf := Memory.write s.buf s.rxOffset b, rxOffset := s.rxOffset + 1, rxState := .awaitPayload, out := {} }

/-- The second branch of 40_framer.md R139 and R140, for every buffer. -/
def Obligations.PayloadByteThatIsNotLastIsStored : Prop :=
  ∀ (b : Byte) (s : State), s.rxState = .awaitType ∨ s.rxState = .awaitPayload →
    s.rxOffset < 65535 → s.rxOffset + 1 ≠ s.rxLength →
    exec (.rxb b) s = .next { s with
      buf := Memory.write s.buf s.rxOffset b, rxOffset := s.rxOffset + 1, rxState := .awaitPayload, out := {} }

/-- 40_framer.md R141, under 10_state.md R26. -/
def Obligations.LastByteDeliversTheWholeFrame : Prop :=
  ∀ (b : Byte) (s : State), FramerInv s → s.rxState = .awaitType ∨ s.rxState = .awaitPayload →
    s.rxOffset + 1 = s.rxLength →
    ∃ f t, exec (.rxb b) s = .next t ∧ t.out.rxStatus = .frameDone ∧ t.out.frame = some f ∧
      f.length = s.rxLength ∧ (∀ i < s.rxOffset, f[i]? = some (Memory.read s.buf i)) ∧ f[s.rxOffset]? = some b ∧
      f[0]? = some 0xE0 ∧ f[1]? = some (if s.rxExt then 0 else BitVec.ofNat 8 s.rxLength) ∧
      t.buf = Memory.write s.buf s.rxOffset b ∧
      t.rxState = .awaitStart ∧ t.rxOffset = 0 ∧ t.rxLength = 0 ∧ t.rxExt = false

/-- No stop where 10_state.md R26 holds, and the model's stops where it does not (DESIGN CHOICE, safe, log 5). -/
def Obligations.RxbStopsOnlyOffTheFramerInvariants : Prop :=
  ∀ (b : Byte) (s : State),
    (FramerTable s → MarkerAndLength s → ∃ t, exec (.rxb b) s = .next t) ∧
    (s.rxState = .awaitExtLen → s.rxOffset ≠ 2 → s.rxOffset ≠ 3 → exec (.rxb b) s = .fault .noFramerRule) ∧
    (s.rxState = .awaitType ∨ s.rxState = .awaitPayload →
      (65535 ≤ s.rxOffset → exec (.rxb b) s = .fault .bufferBounds) ∧
      (s.rxOffset < 65535 → s.rxOffset + 1 = s.rxLength →
        ∀ e, decode (.received (Memory.readRange s.buf 0 s.rxOffset ++ [b])) = .error e →
          exec (.rxb b) s = .fault (.noFrame e)))

/-- 40_framer.md R142; the attempt is 41_codec.md R192. -/
def Obligations.WouldBlockKeepsThePosition : Prop :=
  ∀ (d : Byte) (s : State),
    exec (.rxidle d) s = .next (attempted { s with out := { rxStatus := .wouldBlock } })

/-- 40_framer.md R143; the attempt is 41_codec.md R192. -/
def Obligations.TransportErrorAbortsTheFrame : Prop :=
  ∀ (v : Bool) (d : Byte) (s : State),
    exec (.rxerr v d) s = .next (attempted (aborted .transportError .transportReadError 0 s))

/-- 41_codec.md R171 and R172. -/
def Obligations.RequestsSendTheirThreeBytes : Prop :=
  ∀ s : State,
    exec .cmdGetVersion s = .next { s with out := { tx := some [0xE0, 0x03, 0x00] } } ∧
    exec .txGetVersion s = .next { s with out := { tx := some [0xE0, 0x03, 0x00] } } ∧
    exec .cmdGetStatus s = .next { s with out := { tx := some [0xE0, 0x03, 0x01] } } ∧
    exec .txGetStatus s = .next { s with out := { tx := some [0xE0, 0x03, 0x01] } }

/-- 41_codec.md R173 with 30_encoding.md R107. The places of the frequency bytes rest on decision D17 (90_conflicts.md C5).
That the sent-frame row alone sends in every state is the model's choice (DESIGN CHOICE, log 11), not R173. -/
def Obligations.SetFreqSendsThirteenBytesOrIsBusy : Prop :=
  ∀ (f : BitVec 32) (p : Byte) (s : State),
    (s.ackWait = .idle → exec (.cmdSetFreq f p) s = .next { s with
      ackWait := .waitFreq, ackTries := 0,
      out := { tx := some [0xE0, 0x0D, 0x04, 0x00,
        f.extractLsb' 0 8, f.extractLsb' 8 8, f.extractLsb' 16 8, f.extractLsb' 24 8,
        f.extractLsb' 0 8, f.extractLsb' 8 8, f.extractLsb' 16 8, f.extractLsb' 24 8, p] } }) ∧
    exec (.txSetFreq f p) s = .next { s with
      ackWait := .waitFreq, ackTries := 0,
      out := { tx := some [0xE0, 0x0D, 0x04, 0x00,
        f.extractLsb' 0 8, f.extractLsb' 8 8, f.extractLsb' 16 8, f.extractLsb' 24 8,
        f.extractLsb' 0 8, f.extractLsb' 8 8, f.extractLsb' 16 8, f.extractLsb' 24 8, p] } } ∧
    (s.ackWait ≠ .idle → exec (.cmdSetFreq f p) s = .next (refused .busy 0x04 s))

/-- The accepted branch of 41_codec.md R174. That the sent-frame rows alone send in any state, with any operand and
without the tests of R174, is the model's choice (DESIGN CHOICE, log 11). -/
def Obligations.SetConfigSendsTheLayoutOfItsVersion : Prop :=
  ∀ (c : Cfg) (s : State),
    exec (.txSetConfigV1 c) s = .next { s with
      cfgPending := c, ackWait := .waitConfig, ackTries := 0, out := { tx := some (encodeCfg Config.layoutV1 c) } } ∧
    exec (.txSetConfigV2 c) s = .next { s with
      cfgPending := c, ackWait := .waitConfig, ackTries := 0, out := { tx := some (encodeCfg Config.layoutV2 c) } } ∧
    (∀ v, s.ackWait = .idle → s.protoVersion = some v → c.valid →
      exec (.cmdSetConfig c) s = .next { s with
        cfgPending := c, ackWait := .waitConfig, ackTries := 0,
        out := { tx := some (encodeCfg (if v = .v1 then Config.layoutV1 else Config.layoutV2) c) } })

/-- 41_codec.md R174 and R175. -/
def Obligations.SetConfigIsAcceptedOrRefusedInOrder : Prop :=
  ∀ (c : Cfg) (s : State),
    exec (.cmdSetConfig c) s = .next (
      if s.ackWait ≠ .idle then refused .busy 0x02 s
      else if s.protoVersion = none then refused .notNegotiated 0x02 s
      else if ¬ ((-128 ≤ c.dcTx ∧ c.dcTx ≤ 127) ∧ (-128 ≤ c.dcRx ∧ c.dcRx ≤ 127) ∧
          (0 ≤ c.levelRx ∧ c.levelRx ≤ 100 * Config.levelScale) ∧
          (0 ≤ c.levelTx ∧ c.levelTx ≤ 100 * Config.levelScale) ∧ (0 ≤ c.mode ∧ c.mode ≤ 255)) then
        refused .badOperand 0x02 s
      else
        { s with
          cfgPending := c, ackWait := .waitConfig, ackTries := 0,
          out := { tx := some (encodeCfg
            (if s.protoVersion = some .v1 then Config.layoutV1 else Config.layoutV2) c) } })

/-- 30_encoding.md R104: the refusal is the whole effect of a reserved opcode. -/
def Obligations.ReservedOpcodesAreRefused : Prop :=
  ∀ s : State,
    exec .reserved0303 s = .next (refused .badOp 0x03 s) ∧
    exec .reserved0505 s = .next (refused .badOp 0x05 s) ∧
    (∀ low : BitVec 1, exec (.reserved0607 low) s = .next (refused .badOp (0x06 + low.toNat) s)) ∧
    (∀ low : BitVec 3, exec (.reserved080F low) s = .next (refused .badOp (0x08 + low.toNat) s)) ∧
    (∀ low : BitVec 4, exec (.reserved101F low) s = .next (refused .badOp (0x10 + low.toNat) s)) ∧
    (∀ low : BitVec 5, exec (.reserved203F low) s = .next (refused .badOp (0x20 + low.toNat) s)) ∧
    (∀ low : BitVec 6, exec (.reserved407F low) s = .next (refused .badOp (0x40 + low.toNat) s)) ∧
    (∀ low : BitVec 6, exec (.reserved80BF low) s = .next (refused .badOp (0x80 + low.toNat) s)) ∧
    (∀ low : BitVec 1, exec (.reservedC2C3 low) s = .next (refused .badOp (0xC2 + low.toNat) s)) ∧
    (∀ low : BitVec 2, exec (.reservedC4C7 low) s = .next (refused .badOp (0xC4 + low.toNat) s)) ∧
    (∀ low : BitVec 2, exec (.reservedC8CB low) s = .next (refused .badOp (0xC8 + low.toNat) s)) ∧
    (∀ low : BitVec 1, exec (.reservedCCCD low) s = .next (refused .badOp (0xCC + low.toNat) s)) ∧
    exec .reservedCECE s = .next (refused .badOp 0xCE s) ∧
    (∀ low : BitVec 4, exec (.reservedD0DF low) s = .next (refused .badOp (0xD0 + low.toNat) s)) ∧
    (∀ low : BitVec 5, exec (.reservedE0FF low) s = .next (refused .badOp (0xE0 + low.toNat) s))

/-- 42_fec_ber.md R235 with the report of R236. -/
def Obligations.ClockTicksAllBanks : Prop :=
  ∀ s : State, ∃ t, exec .clock s = .next t ∧
    (∀ id, bankOf t.ber id =
      if (bankOf s.ber id).running then
        if (bankOf s.ber id).timer = 1 then { bits := 0, errors := 0, frames := 0, timer := 0, running := false }
        else { bankOf s.ber id with timer := (bankOf s.ber id).timer - 1 }
      else bankOf s.ber id) ∧
    t = { s with
      ber := t.ber
      out :=
        { report :=
            ([.dstar, .dmr, .dmr1031, .ysf, .p25, .nxdn].filter
              (fun id => (bankOf s.ber id).running && (bankOf s.ber id).timer == 1)).map
              (fun id => bankReport s.ber id true) } }

/-- 42_fec_ber.md R237 with the report of R236. -/
def Obligations.BerReadReportsOneBank : Prop :=
  ∀ (n : BitVec 3) (s : State),
    (∀ id, checkerNumber id = n.toNat →
      exec (.berRead n) s = .next { s with
        out := { report := [bankReport s.ber id false]
                 cause := if s.faultOvf then .counterOverflow else .none } }) ∧
    (6 ≤ n.toNat → exec (.berRead n) s = .next (refused .badOperand n.toNat s))

/-- 41_codec.md R189, with the failed attempt of R195 and R196. -/
def Obligations.StatusDebugOtherPassThrough : Prop :=
  PassesThrough .rxStatus .status ∧
  PassesThrough .rxOther0203 .other ∧
  PassesThrough .rxOther0407 .other ∧
  PassesThrough .rxOther080F .other ∧
  PassesThrough .rxOther606F .other ∧
  PassesThrough .rxOther7171 .other ∧
  PassesThrough .rxOther7273 .other ∧
  PassesThrough .rxOther7477 .other ∧
  PassesThrough .rxOther787B .other ∧
  PassesThrough .rxOther7C7D .other ∧
  PassesThrough .rxOther7E7E .other ∧
  PassesThrough .rxOther80BF .other ∧
  PassesThrough .rxOtherC0DF .other ∧
  PassesThrough .rxOtherE0EF .other ∧
  PassesThrough .rxOtherF0F0 .other ∧
  PassesThrough .rxDebugF1 .debug ∧
  PassesThrough .rxDebugF2 .debug ∧
  PassesThrough .rxDebugF3 .debug ∧
  PassesThrough .rxDebugF4 .debug ∧
  PassesThrough .rxDebugF5 .debug ∧
  PassesThrough .rxOtherF6F7 .other ∧
  PassesThrough .rxOtherF8FF .other

/-- 41_codec.md R186 and R187 with the default offsets and prefixes (log 7). That the offsets count in the whole frame in
the extended form too is the model's reading (DEDUCED, unsafe, log 13). -/
def Obligations.VersionResponseDecodes : Prop :=
  ∀ (f : List Byte) (s : State), exec (.rxVersion f) s = .next (attempted (versionDecoded f (delivered f .version s)))

/-- 41_codec.md R193, R194 and R197. The offset 4 is the default of NAK_REASON_OFFSET (DESIGN CHOICE, unsafe, log 7); that
it counts in the whole frame in the extended form too is the model's reading (DEDUCED, unsafe, log 13). -/
def Obligations.AckCommitsAndNakRestores : Prop :=
  ∀ (f : List Byte) (s : State),
    exec (.rxAck f) s = .next (
      if s.ackWait = .idle then delivered f .ack s
      else
        { s with
          cfgCommitted := if s.ackWait = .waitConfig then s.cfgPending else s.cfgCommitted
          ackWait := .idle, ackTries := 0
          out := { rxStatus := .frameDone, frame := some f, cls := some .ack, link := .acked } }) ∧
    exec (.rxNak f) s = .next (
      if s.ackWait = .idle then delivered f .nak s
      else
        { s with
          cfgPending := s.cfgCommitted, ackWait := .idle, ackTries := 0
          out := { rxStatus := .frameDone, frame := some f, cls := some .nak, link := .naked
                   linkInfo := if f.length > 4 then some (f.getD 4 0) else none } })

/-- 42_fec_ber.md R233, R234 and R239. -/
def Obligations.CodecFramesFeedTheSelectedBank : Prop :=
  OffersToBank .rxCodecData101F ∧ OffersToBank .rxCodecData203F ∧ OffersToBank .rxCodecData405F

/-- 10_state.md R26, as one predicate. -/
def Obligations.FramerInvariantsHold : Prop :=
  (FramerTable State.reset ∧ MarkerAndLength State.reset) ∧
  ∀ s t : State, FramerTable s → MarkerAndLength s → step s = .next t → FramerTable t ∧ MarkerAndLength t

/-- The invariant of the whole block at reset. -/
def Obligations.InvariantHoldsAtReset : Prop :=
  Inv State.reset

/-- The inductive invariant of the whole block. -/
def Obligations.EveryStepKeepsTheInvariant : Prop :=
  ∀ s t : State, Inv s → step s = .next t → Inv t

/-- 60_exceptions.md R295: from every reachable state every event has a defined step. -/
def Obligations.NoDeadState : Prop :=
  (∀ s : State, Inv s → ∃ t, step s = .next t) ∧
  ∀ (es : List Event) (s : State), Inv s → ∃ t os, feed es s = some (t, os) ∧ os.length = es.length ∧ Inv t

/-- The invariants of 41_codec.md R191. -/
def Obligations.TrackerInvariantsHold : Prop :=
  TrackerInv State.reset ∧ ∀ s t : State, TrackerInv s → step s = .next t → TrackerInv t

/-- The ranges of 10_state.md R36 and R37. -/
def Obligations.BankRangesHold : Prop :=
  (∀ id, BankRanges (bankOf State.reset.ber id)) ∧
  ∀ s t : State, (∀ id, BankRanges (bankOf s.ber id)) → step s = .next t → ∀ id, BankRanges (bankOf t.ber id)

/-- 41_codec.md R191: a wait ends after at most ACK_MAX_TRIES attempts. Host commands are never attempts (R192). -/
def Obligations.AwaitedCommandAlwaysEnds : Prop :=
  ∀ (s t : State) (es : List Event) (os : List Output), s.ackWait ≠ .idle → s.ackTries < 30 →
    (∀ e ∈ es, isResetEvent e = false) → feed es s = some (t, os) →
    30 ≤ s.ackTries + (os.filter (fun o => o.rxStatus != .cont)).length → ∃ o ∈ os, o.link ≠ .none

/-- 41_codec.md R196. -/
def Obligations.SilenceEndsUnresponsive : Prop :=
  ∀ s : State, s.ackWait ≠ .idle → s.ackTries = 0 →
    feed (List.replicate 30 rxidleEvent) s = some (
      { s with
        cfgPending := s.cfgCommitted, ackWait := .idle, ackTries := 0
        out := { rxStatus := .wouldBlock, link := .unresponsive } },
      List.replicate 29 { rxStatus := .wouldBlock } ++ [{ rxStatus := .wouldBlock, link := .unresponsive }])

/-- 40_framer.md R147, the length law. -/
def Obligations.FramerYieldsTheDeclaredLength : Prop :=
  ∀ s : State, s.rxState = .awaitStart →
    (∀ (t : Byte) (p : List Byte), 3 + p.length < 250 → ∃ u os o,
      feed (rxFrame t p) s = some (u, os ++ [o]) ∧ os.length = 2 + p.length ∧ (∀ x ∈ os, x.rxStatus = .cont) ∧
      o.rxStatus = .frameDone ∧ o.frame = some (0xE0 :: BitVec.ofNat 8 (3 + p.length) :: t :: p) ∧
      u.rxState = .awaitStart) ∧
    (∀ l : Byte, 250 ≤ l.toNat → ∃ u o o',
      feed [rxbEvent 0xE0, rxbEvent l] s = some (u, [o, o']) ∧ o.rxStatus = .cont ∧
      o'.rxStatus = .protocolError ∧ o'.cause = .invalidLength ∧ o'.info = l.toNat ∧ u.rxState = .awaitStart) ∧
    (∀ (t : Byte) (p : List Byte), 5 + p.length ≤ 65535 → ∃ u os o,
      feed (rxChunk (0xE0 :: 0x00 :: BitVec.ofNat 8 ((5 + p.length) / 256) :: BitVec.ofNat 8 (5 + p.length) :: t :: p)) s
        = some (u, os ++ [o]) ∧ os.length = 4 + p.length ∧ (∀ x ∈ os, x.rxStatus = .cont) ∧
      o.rxStatus = .frameDone ∧
      o.frame = some (0xE0 :: 0x00 :: BitVec.ofNat 8 ((5 + p.length) / 256) :: BitVec.ofNat 8 (5 + p.length) :: t :: p) ∧
      u.rxState = .awaitStart)

/-- 40_framer.md R145, chunk-size independence. -/
def Obligations.ReassemblyIsChunkIndependent : Prop :=
  ∀ (s : State) (w : List Byte) (e1 e2 : List Event),
    e1.filter (fun e => !isIdleEvent e) = rxChunk w → e2.filter (fun e => !isIdleEvent e) = rxChunk w →
    (feed e1 s).map (fun r => (framerView r.1, (r.2.filter (fun o => o.rxStatus != .wouldBlock)).map framerReport))
      = (feed e2 s).map (fun r => (framerView r.1, (r.2.filter (fun o => o.rxStatus != .wouldBlock)).map framerReport)) ∧
    (s.ackWait = .idle →
      (feed e1 s).map (fun r => (registers r.1, r.2.filter (fun o => o.rxStatus != .wouldBlock)))
        = (feed e2 s).map (fun r => (registers r.1, r.2.filter (fun o => o.rxStatus != .wouldBlock))))

/-- 40_framer.md R132 and R146. -/
def Obligations.NoiseIsDiscardedUntilAMarker : Prop :=
  ∀ (s : State) (w : List Byte), s.rxState = .awaitStart → (∀ b ∈ w, b ≠ 0xE0) →
    (∃ u os, feed (rxChunk w) s = some (u, os) ∧ os = List.replicate w.length {} ∧ registers u = registers s) ∧
    (∀ (t : Byte) (p : List Byte), 3 + p.length < 250 → ∃ u os o,
      feed (rxChunk w ++ rxFrame t p) s = some (u, List.replicate w.length ({} : Output) ++ (os ++ [o])) ∧
      (∀ x ∈ os, x.rxStatus = .cont) ∧ o.rxStatus = .frameDone ∧ o.frame = some (mkframe t p) ∧
      feed (rxFrame t p) s = some (u, os ++ [o]))

/-- 10_state.md R29: cfg_committed is written only by the ACK rule and by RESET. -/
def Obligations.CommittedConfigurationWriters : Prop :=
  ∀ (i : Instr) (s t : State), exec i s = .next t →
    (t.cfgCommitted = s.cfgCommitted ∨ (i = .reset ∧ t.cfgCommitted = Config.cfgInit) ∨
      (s.ackWait = .waitConfig ∧ t.cfgCommitted = s.cfgPending ∧ t.out.link = .acked ∧ t.out.cls = some .ack)) ∧
    (t.out.link = .naked ∨ t.out.link = .unresponsive → t.cfgCommitted = s.cfgCommitted)

/-- 10_state.md R27 and R28, 41_codec.md R188. -/
def Obligations.VersionRegisterWriters : Prop :=
  ∀ (i : Instr) (s t : State), exec i s = .next t →
    ((t.protoVersion = s.protoVersion ∧ t.hwType = s.hwType) ∨
      (i = .reset ∧ t.protoVersion = none ∧ t.hwType = none) ∨
      (t.out.cls = some .version ∧ t.out.cause = .none ∧ t.protoVersion.isSome = true ∧ t.hwType.isSome = true)) ∧
    (t.out.cls = some .version →
      t.cfgCommitted = s.cfgCommitted ∧ t.ber = s.ber ∧ t.faultOvf = s.faultOvf)

/-- 40_framer.md R130: no host command changes any framer register except RESET. -/
def Obligations.FramerRegisterWriters : Prop :=
  ∀ (i : Instr) (s t : State), exec i s = .next t →
    ((∀ b, i ≠ .rxb b) → (∀ v d, i ≠ .rxerr v d) → i ≠ .reset → framerView t = framerView s) ∧
    ((∃ v d, i = .rxerr v d) → t.buf = s.buf)

/-- 20_memory.md R60: one byte per event, always at index rx_offset. -/
def Obligations.BufferByteWriters : Prop :=
  ∀ (b : Byte) (s t : State), FramerInv s → exec (.rxb b) s = .next t →
    (∀ a, a ≠ s.rxOffset → Memory.read t.buf a = Memory.read s.buf a) ∧ s.rxOffset < 65535 ∧
    (Memory.read t.buf s.rxOffset = Memory.read s.buf s.rxOffset ∨ Memory.read t.buf s.rxOffset = some b)

/-- 10_state.md R36 and R37: who writes a bank. -/
def Obligations.BankWriters : Prop :=
  ∀ (i : Instr) (s t : State), exec i s = .next t →
    t.ber = s.ber ∨ i = .clock ∨ i = .reset ∨
    (t.out.cls = some .codecData ∧ ∃ id, (∀ j, j ≠ id → bankOf t.ber j = bankOf s.ber j) ∧
      (bankOf t.ber id).frames = (bankOf s.ber id).frames + 1 ∧
      (bankOf s.ber id).errors ≤ (bankOf t.ber id).errors ∧ (bankOf s.ber id).bits ≤ (bankOf t.ber id).bits ∧
      (bankOf t.ber id).timer = Config.berTimeoutTicks ∧ (bankOf t.ber id).running = true)

/-- 10_state.md R38 and 42_fec_ber.md R239. -/
def Obligations.OverflowFlagIsSticky : Prop :=
  ∀ (i : Instr) (s t : State), exec i s = .next t →
    (s.faultOvf = true → i ≠ .reset → t.faultOvf = true) ∧
    (s.faultOvf = false → t.faultOvf = true →
      t.out.cause = .counterOverflow ∧ t.out.cls = some .codecData ∧ t.ber = s.ber)

/-- 60_exceptions.md R288. -/
def Obligations.RefusedCommandDoesNothing : Prop :=
  ∀ (i : Instr) (s t : State), exec i s = .next t → t.out.cmdStatus = .refused →
    t = { s with out := t.out } ∧ t.out.tx = none ∧
    (t.out.cause = .busy ∨ t.out.cause = .notNegotiated ∨ t.out.cause = .badOperand ∨ t.out.cause = .badOp)

/-- 60_exceptions.md R282. -/
def Obligations.EventsReportOnlyWhatTheTableAllows : Prop :=
  ∀ (i : Instr) (s t : State), exec i s = .next t → ReportAllowed i s t.out

/-- The conditions of 00_scope.md R8 on the output record. -/
def Obligations.OutputRecordIsWellFormed : Prop :=
  ∀ (e : Event) (s t : State), FramerInv s → step (present e s) = .next t →
    (t.out.frame.isSome = true ↔ t.out.rxStatus = .frameDone) ∧ t.out.cls.isSome = t.out.frame.isSome ∧
    (t.out.linkInfo.isSome = true → t.out.link = .naked) ∧ t.out.info < 65536 ∧
    t.out.report.Pairwise (fun a b => checkerNumber a.id < checkerNumber b.id)

/-- 30_encoding.md R105, 41_codec.md R170. -/
def Obligations.SentFramesAreShortWireFrames : Prop :=
  ∀ (i : Instr) (s t : State) (f : List Byte), exec i s = .next t → t.out.tx = some f →
    isWireFrame f = true ∧ isExtended f = false ∧ t.out.frame = none ∧ SentBy i s f

/-- 41_codec.md R180. -/
def Obligations.ConfigurationRoundTrip : Prop :=
  ∀ (l : Layout) (n : Nat) (c : Cfg), l.wf n → n < 250 → c.valid →
    ∃ d, decodeCfg l (encodeCfg l c) = some d ∧ (∀ f, d.flag f = c.flag f) ∧ (d.mode.toNat : Int) = c.mode ∧
      (∀ k, d.dc k = c.dc k) ∧ (∀ k, d.levelByte k = encLevel (c.level k))

/-- 41_codec.md R177, with R105 and R170. -/
def Obligations.ConfigurationFrameShape : Prop :=
  ∀ (l : Layout) (n : Nat) (c : Cfg), l.wf n → n < 250 →
    encodeCfg l c = mkframe 0x02 ((encodeCfg l c).drop 3) ∧ (encodeCfg l c).length = n ∧
    isWireFrame (encodeCfg l c) = true ∧
    (∀ i ∈ l.mode, (encodeCfg l c)[i]? = some (BitVec.ofInt 8 c.mode)) ∧
    (∀ k, ∀ i ∈ l.dc k, (encodeCfg l c)[i]? = some (encDc (c.dc k))) ∧
    (∀ k, ∀ i ∈ l.level k, (encodeCfg l c)[i]? = some (encLevel (c.level k))) ∧
    (∀ f, ((encodeCfg l c).getD (l.flag f).off 0).getLsbD (l.flag f).bit = (c.flag f == decide ((l.flag f).pol = .pos))) ∧
    (∀ f (b : Fin 8), (∀ g, (l.flag g).off = (l.flag f).off → (l.flag g).bit ≠ b) →
      ((encodeCfg l c).getD (l.flag f).off 0).getLsbD b = false) ∧
    (∀ i, 3 ≤ i → i < n → i ∉ l.listed → (∀ f, (l.flag f).off ≠ i) → (encodeCfg l c)[i]? = some (l.fill i))

/-- 30_encoding.md R108 and R109. -/
def Obligations.LevelAndOffsetBytes : Prop :=
  (∀ x : Int, 0 ≤ x → x ≤ 100 * Config.levelScale →
    ((encLevel x).toNat : Int) = (510 * x + 100 * Config.levelScale) / (200 * Config.levelScale)) ∧
  encLevel 0 = 0 ∧ encLevel (100 * Config.levelScale) = 255 ∧
  (∀ d : Int, -128 ≤ d → d ≤ 127 → ((encDc d).toNat : Int) = d + 128 ∧ decDc (encDc d) = d) ∧
  (∀ b : Byte, decDc b = (b.toNat : Int) - 128)

/-- 42_fec_ber.md R220. -/
def Obligations.CountErrsIsThePopulationCount : Prop :=
  ∀ a b : Byte, countErrs a b = ((a ^^^ b).cpop).toNat ∧ countErrs a b = countErrs b a ∧
    (countErrs a b = 0 ↔ a = b) ∧ countErrs a b ≤ 8

/-- 42_fec_ber.md R221 with the bit order of 00_scope.md R11. -/
def Obligations.CountErrsOfSequencesCountsBits : Prop :=
  (∀ s t : List Byte, s.length = t.length →
    countErrsBytes s t
      = countErrsBits (packedBits s (List.range (8 * s.length))) (packedBits t (List.range (8 * t.length)))) ∧
  (∀ x y : List Bool, x.length = y.length → countErrsBits x y ≤ x.length ∧ (countErrsBits x y = 0 ↔ x = y))

/-- 42_fec_ber.md R224 under the admissibility of R223. -/
def Obligations.CheckerScoreIsBounded : Prop :=
  ∀ (d : CheckerDesc) (st errs nbits : Nat) (p : List Byte), d.Admissible →
    checkFrame d st p = some (errs, nbits) →
    errs ≤ nbits ∧ 1 ≤ nbits ∧ nbits = d.frameBits st ∧
    (errs = 0 ↔ ∀ b ∈ d.blocks st,
      b.regen (packedBits (descramble p (d.mask st p.length)) b.info)
        = packedBits (descramble p (d.mask st p.length)) b.check)

/-- 42_fec_ber.md R236. -/
def Obligations.BerRateIsAnExactPercentage : Prop :=
  ∀ (b : BerBanks) (id : CheckerId) (final : Bool), mkReport b id final = bankReport b id final ∧
    ((bankOf b id).bits = 0 → (mkReport b id final).rate = .noData) ∧
    ((bankOf b id).bits ≠ 0 → (bankOf b id).errors ≤ (bankOf b id).bits → ∃ q : Rat,
      (mkReport b id final).rate = .percent q ∧ q * (bankOf b id).bits = 100 * (bankOf b id).errors ∧
      0 ≤ q ∧ q ≤ 100)

/-- 42_fec_ber.md R240, the accumulation law, at the accumulator; for the scored frames of a run see the two statements below. -/
def Obligations.BerAccumulationLaw : Prop :=
  ∀ (id : CheckerId) (rs : List (Nat × Nat)) (s : State), rs ≠ [] → bankOf s.ber id = {} →
    (rs.map Prod.fst).sum ≤ 2 ^ 32 - 1 → (rs.map Prod.snd).sum ≤ 2 ^ 32 - 1 → rs.length ≤ 2 ^ 32 - 1 →
    ∃ t, rs.foldl (fun u r => accumulate id r.1 r.2 u) s = t ∧ t.faultOvf = s.faultOvf ∧
      bankOf t.ber id =
        { bits := (rs.map Prod.snd).sum, errors := (rs.map Prod.fst).sum, frames := rs.length
          timer := Config.berTimeoutTicks, running := true } ∧
      ∃ u os, feed (List.replicate Config.berTimeoutTicks clockEvent) t = some (u, os) ∧
        os.map (fun o => o.report.filter (fun r => r.id == id)) =
          List.replicate (Config.berTimeoutTicks - 1) [] ++ [[bankReport t.ber id true]] ∧
        bankOf u.ber id = {} ∧
        ∃ v, exec (.berRead (BitVec.ofNat 3 (checkerNumber id))) u = .next v ∧
          v.out.report =
            [{ id := id, errors := 0, bits := 0, frames := 0, final := false, rate := .noData }]

/-- 42_fec_ber.md R240 over the scored frames of a run: noise, idle reads, other frames, other checkers' scores, host commands
and ticks may stand between them. -/
def Obligations.BankHoldsTheScoresOfTheRun : Prop :=
  ∀ (id : CheckerId) (es : List Event) (s t : State) (os : List Output),
    (∀ e ∈ es, isResetEvent e = false) → feed es s = some (t, os) → fired id os = false →
    (bankOf s.ber id).errors + ((scoresOf id es s).map Prod.fst).sum ≤ 2 ^ 32 - 1 →
    (bankOf s.ber id).bits + ((scoresOf id es s).map Prod.snd).sum ≤ 2 ^ 32 - 1 →
    (bankOf s.ber id).frames + (scoresOf id es s).length ≤ 2 ^ 32 - 1 →
    (bankOf t.ber id).errors = (bankOf s.ber id).errors + ((scoresOf id es s).map Prod.fst).sum ∧
    (bankOf t.ber id).bits = (bankOf s.ber id).bits + ((scoresOf id es s).map Prod.snd).sum ∧
    (bankOf t.ber id).frames = (bankOf s.ber id).frames + (scoresOf id es s).length ∧
    ((bankOf t.ber id).running = true ↔ (bankOf s.ber id).running = true ∨ scoresOf id es s ≠ []) ∧
    ∀ pre e r ps, es = pre ++ [e] → feed pre s = some (r, ps) →
      (bankOf t.ber id).timer =
        if scoresOf id [e] r ≠ [] then Config.berTimeoutTicks
        else if isClockEvent e ∧ (bankOf r.ber id).running then (bankOf r.ber id).timer - 1
        else (bankOf r.ber id).timer

/-- 42_fec_ber.md R235 and the second half of R240: other events may stand between the ticks. -/
def Obligations.TimeoutReportsTheSumsOnce : Prop :=
  ∀ (id : CheckerId) (n : Nat) (es : List Event) (s t : State) (os : List Output),
    (bankOf s.ber id).running = true → (bankOf s.ber id).timer = n + 1 →
    (∀ e ∈ es, isResetEvent e = false) → (es.filter isClockEvent).length = n → scoresOf id es s = [] →
    feed es s = some (t, os) →
    fired id os = false ∧ ∃ u o, feed [clockEvent] t = some (u, [o]) ∧
      o.report.filter (fun r => r.id == id) = [bankReport s.ber id true] ∧
      bankOf u.ber id = { bits := 0, errors := 0, frames := 0, timer := 0, running := false } ∧
      ∃ v, exec (.berRead (BitVec.ofNat 3 (checkerNumber id))) u = .next v ∧
        v.out.report = [{ id := id, errors := 0, bits := 0, frames := 0, final := false, rate := .noData }]
end

