-- ==== Sys2Proof/Laws/Decode.lean ====
section
/-! SUPPORT. The tables of the decoder: rows that match one word exclude each other (30_encoding.md R113), so a row that
matches is the row the decoder finds. -/

namespace Sys2Proof

/-- The first element that satisfies a test is the only one that can, where the elements exclude each other. -/
theorem find_of_exclusive {α : Type} {p : α → Bool} {l : List α} {r : α}
    (hl : l.Pairwise (fun a b => ¬ (p a = true ∧ p b = true))) (hr : r ∈ l) (hp : p r = true) :
    l.find? p = some r := by
  induction l with
  | nil => cases hr
  | cons a l ih =>
    rw [List.pairwise_cons] at hl
    rcases List.mem_cons.mp hr with rfl | hr
    · simp [hp]
    · have ha : p a = false := by
        by_contra h
        exact hl.1 r hr ⟨by simpa using h, hp⟩
      simp [ha, ih hl.2 hr]

/-- Two masked patterns that differ in a bit both masks have match no byte together. -/
theorem no_common_match {m n p q t : BitVec 8} (h : (p ^^^ q) &&& m &&& n ≠ 0) :
    ¬ ((t &&& m == p) = true ∧ (t &&& n == q) = true) := by
  rintro ⟨hp, hq⟩
  have hp := eq_of_beq hp
  have hq := eq_of_beq hq
  apply h
  subst hp; subst hq
  ext i hi
  simp only [BitVec.getElem_and, BitVec.getElem_xor]
  cases t[i] <;> cases m[i] <;> cases n[i] <;> simp

theorem receivedTable_exclusive (t : Byte) :
    receivedTable.Pairwise (fun a b => ¬ ((t &&& a.mask == a.pattern) = true ∧ (t &&& b.mask == b.pattern) = true)) := by
  have h : receivedTable.Pairwise (fun a b => (a.pattern ^^^ b.pattern) &&& a.mask &&& b.mask ≠ 0) := by decide
  exact h.imp no_common_match

theorem hostTable_exclusive (op : BitVec 8) :
    hostTable.Pairwise (fun a b => ¬ ((op &&& a.mask == a.pattern) = true ∧ (op &&& b.mask == b.pattern) = true)) := by
  have h : hostTable.Pairwise (fun a b => (a.pattern ^^^ b.pattern) &&& a.mask &&& b.mask ≠ 0) := by decide
  exact h.imp no_common_match

/-- A frame with the start marker and a tag that a row matches decodes to that row. -/
theorem decodeReceived_of_row {f : List Byte} {r : FrameRow} {t : Byte} (hr : r ∈ receivedTable)
    (hm : f[0]? = some Config.startMarker) (ht : Machine.frameTag f = some t) (h : (t &&& r.mask == r.pattern) = true) :
    decodeReceived f = .ok (r.make f) := by
  have hf := find_of_exclusive (receivedTable_exclusive t) hr h
  simp only [decodeReceived, hm, ht, beq_self_eq_true, if_true, hf]

/-- Every tag has a row (30_encoding.md R113). -/
theorem receivedTable_covers (t : Byte) : (receivedTable.find? (fun r => t &&& r.mask == r.pattern)).isSome = true := by
  revert t; decide +kernel

/-- Every opcode has a row (30_encoding.md R104, R113). -/
theorem hostTable_covers (op : BitVec 8) : (hostTable.find? (fun r => op &&& r.mask == r.pattern)).isSome = true := by
  revert op; decide +kernel

/-- Every event decodes (30_encoding.md R100, R104). -/
theorem decodeEvent_total (e : Event) : ∃ i, decodeEvent e = .ok i := by
  cases e with
  | transport w => exact ⟨_, rfl⟩
  | host op x =>
    obtain ⟨r, hr⟩ := Option.isSome_iff_exists.mp (hostTable_covers op)
    exact ⟨r.make op x, by simp [decodeEvent, decodeHost, hr]⟩

/-- A well-formed instruction of a received-frame row decodes to that row. -/
theorem decodeReceived_of_frameInRow {f : List Byte} {r : FrameRow} (hr : r ∈ receivedTable)
    (h : frameInRow r.mask r.pattern f = true) : decodeReceived f = .ok (r.make f) := by
  obtain ⟨hw, ht⟩ := Bool.and_eq_true_iff.mp h
  obtain ⟨t, ht, hp⟩ := Option.any_eq_true _ _ |>.mp ht
  have hm : f[0]? = some Config.startMarker := by
    simp only [Machine.isWireFrame, Bool.and_eq_true] at hw
    exact eq_of_beq hw.1.1
  exact decodeReceived_of_row hr hm ht hp

/-- The fields of a transport word come back from it (30_encoding.md R100). -/
theorem decodeTransport_transportWord (err valid : Bool) (data : Byte) :
    decodeTransport (transportWord err valid data)
      = if err then .rxerr valid data else if valid then .rxb data else .rxidle data := by
  revert err valid data; decide +kernel

end Sys2Proof
end

