-- ==== Sys2Proof/Laws/Memory.lean ====
section
/-! SUPPORT. The frame buffer: reads after writes, and the canonical form kept by every operation (20_memory.md R60). -/

namespace Sys2Proof.Machine

/-- An erased address reads as an unlisted one, every other as before. -/
theorem Memory.read_erase (m : List Host.Cell) (a a' : Nat) :
    Memory.read (Memory.erase m a) a' = if a = a' then Memory.unlisted else Memory.read m a' := by
  induction m with
  | nil => simp [Memory.erase, Memory.read]
  | cons c m ih =>
    simp only [Memory.erase] at ih ⊢
    by_cases hc : c.1 = a
    · rw [List.filter_cons_of_neg (by simp [hc]), ih]
      split
      · rfl
      · next h => simp [Memory.read, hc, h]
    · rw [List.filter_cons_of_pos (by simp [hc]), Memory.read, Memory.read, ih]
      split <;> split <;> simp_all

/-- An inserted cell is read at its address when the list does not have that address; every other reads as before. -/
theorem Memory.read_insert {m : List Host.Cell} {a : Nat} {b : Byte} (h : ∀ c ∈ m, c.1 ≠ a) (a' : Nat) :
    Memory.read (Memory.insert (a, b) m) a' = if a = a' then b else Memory.read m a' := by
  induction m with
  | nil => simp [Memory.insert, Memory.read]
  | cons c m ih =>
    have hc : c.1 ≠ a := h c (List.mem_cons_self ..)
    have ih := ih (fun d hd => h d (List.mem_cons_of_mem _ hd))
    unfold Memory.insert
    split
    · rfl
    · rw [Memory.read, Memory.read, ih]
      split <;> split <;> simp_all

/-- What a read after a write gives. -/
theorem Memory.read_write (m : List Host.Cell) (a a' : Nat) (b : Byte) :
    Memory.read (Memory.write m a b) a' = if a = a' then b else Memory.read m a' := by
  unfold Memory.write
  split
  · next hb => rw [Memory.read_erase, hb]
  · rw [Memory.read_insert (fun c hc => by simpa using (List.mem_filter.mp hc).2), Memory.read_erase]
    split <;> simp_all

@[simp] theorem Memory.read_write_same (m : List Host.Cell) (a : Nat) (b : Byte) :
    Memory.read (Memory.write m a b) a = b := by
  rw [Memory.read_write, if_pos rfl]

theorem Memory.read_write_other (m : List Host.Cell) {a a' : Nat} (b : Byte) (h : a ≠ a') :
    Memory.read (Memory.write m a b) a' = Memory.read m a' := by
  rw [Memory.read_write, if_neg h]

/-- A cell of a list with one inserted is that one or was there before. -/
theorem Memory.mem_insert {m : List Host.Cell} {c d : Host.Cell} (h : d ∈ Memory.insert c m) : d = c ∨ d ∈ m := by
  induction m with
  | nil => simpa [Memory.insert] using h
  | cons e m ih =>
    unfold Memory.insert at h
    split at h
    · simpa using h
    · rcases List.mem_cons.mp h with h | h
      · exact .inr (h ▸ List.mem_cons_self ..)
      · exact (ih h).imp id (List.mem_cons_of_mem _)

/-- Inserting a new address keeps the addresses strictly rising. -/
theorem Memory.insert_pairwise {m : List Host.Cell} {c : Host.Cell} (hm : m.Pairwise (fun c d => c.1 < d.1))
    (hc : ∀ d ∈ m, d.1 ≠ c.1) : (Memory.insert c m).Pairwise (fun c d => c.1 < d.1) := by
  induction m with
  | nil => exact List.pairwise_singleton _ _
  | cons d m ih =>
    obtain ⟨hd, hp⟩ := List.pairwise_cons.mp hm
    unfold Memory.insert
    split
    · next h =>
      refine List.pairwise_cons.mpr ⟨fun e he => ?_, hm⟩
      rcases List.mem_cons.mp he with rfl | he
      · exact h
      · exact h.trans (hd e he)
    · next h =>
      refine List.pairwise_cons.mpr ⟨fun e he => ?_, ih hp (fun e he => hc e (List.mem_cons_of_mem _ he))⟩
      rcases Memory.mem_insert he with rfl | he
      · have := hc d (List.mem_cons_self ..); omega
      · exact hd e he

/-- A write inside the buffer keeps the canonical form. -/
theorem Memory.write_wf {m : List Host.Cell} {a : Nat} {b : Byte} (hm : Memory.wf m) (ha : a < Config.bufBytes) :
    Memory.wf (Memory.write m a b) := by
  have he : Memory.wf (Memory.erase m a) :=
    ⟨hm.1.filter _, fun c hc => hm.2 c (List.mem_filter.mp hc).1⟩
  unfold Memory.write
  split
  · exact he
  · next hb =>
    refine ⟨Memory.insert_pairwise he.1 (fun c hc => by simpa using (List.mem_filter.mp hc).2), fun c hc => ?_⟩
    rcases Memory.mem_insert hc with rfl | hc
    · exact ⟨ha, hb⟩
    · exact he.2 c hc

/-- Writing a sequence that fits keeps the canonical form. -/
theorem Memory.writeRange_wf {m : List Host.Cell} {a : Nat} {f : List Byte} (hm : Memory.wf m)
    (ha : a + f.length ≤ Config.bufBytes) : Memory.wf (Memory.writeRange m a f) := by
  induction f generalizing m a with
  | nil => exact hm
  | cons b f ih =>
    simp only [List.length_cons] at ha
    exact ih (Memory.write_wf hm (by omega)) (by omega)

/-- Equal contents are equal data: two canonical lists that read alike at every address are the same list. -/
theorem Memory.ext_of_read {m n : List Host.Cell} (hm : Memory.wf m) (hn : Memory.wf n)
    (h : ∀ a, Memory.read m a = Memory.read n a) : m = n := by
  have low : ∀ {l : List Host.Cell} {a : Nat}, (∀ c ∈ l, a < c.1) → Memory.read l a = Memory.unlisted := by
    intro l a hl
    induction l with
    | nil => rfl
    | cons c l ih =>
      have := hl c (List.mem_cons_self ..)
      rw [Memory.read, if_neg (by omega), ih (fun d hd => hl d (List.mem_cons_of_mem _ hd))]
  induction m generalizing n with
  | nil =>
    cases n with
    | nil => rfl
    | cons d n =>
      have := h d.1
      simp only [Memory.read, if_pos] at this
      exact absurd this.symm (hn.2 d (List.mem_cons_self ..)).2
  | cons c m ih =>
    obtain ⟨hc, hm1⟩ := List.pairwise_cons.mp hm.1
    have hmw : Memory.wf m := ⟨hm1, fun x hx => hm.2 x (List.mem_cons_of_mem _ hx)⟩
    have hcb := (hm.2 c (List.mem_cons_self ..)).2
    cases n with
    | nil =>
      have := h c.1
      simp only [Memory.read, if_pos] at this
      exact absurd this hcb
    | cons d n =>
      obtain ⟨hd, hn1⟩ := List.pairwise_cons.mp hn.1
      have hnw : Memory.wf n := ⟨hn1, fun x hx => hn.2 x (List.mem_cons_of_mem _ hx)⟩
      have hdb := (hn.2 d (List.mem_cons_self ..)).2
      have hcd : c.1 = d.1 := by
        rcases Nat.lt_trichotomy c.1 d.1 with hl | he | hl
        · have := h c.1
          rw [low (l := d :: n) (a := c.1) (fun x hx => by
            rcases List.mem_cons.mp hx with rfl | hx
            · exact hl
            · exact hl.trans (hd x hx)), Memory.read, if_pos rfl] at this
          exact absurd this hcb
        · exact he
        · have := h d.1
          rw [low (l := c :: m) (a := d.1) (fun x hx => by
            rcases List.mem_cons.mp hx with rfl | hx
            · exact hl
            · exact hl.trans (hc x hx)), Memory.read, if_pos rfl] at this
          exact absurd this.symm hdb
      have hb : c.2 = d.2 := by
        have := h c.1
        rwa [Memory.read, if_pos rfl, Memory.read, if_pos hcd.symm] at this
      have htail : m = n := ih hmw hnw fun a => by
        by_cases ha : c.1 = a
        · rw [low (fun x hx => ha ▸ hc x hx), low (fun x hx => by rw [← ha, hcd]; exact hd x hx)]
        · have := h a
          rwa [Memory.read, if_neg ha, Memory.read, if_neg (hcd ▸ ha)] at this
      rw [htail, Prod.ext hcd hb]

@[simp] theorem Memory.readRange_length (m : List Host.Cell) (a n : Nat) : (Memory.readRange m a n).length = n := by
  simp [Memory.readRange]

/-- A range holds at each index the byte there. -/
theorem Memory.readRange_getElem? (m : List Host.Cell) (a : Nat) {n i : Nat} (h : i < n) :
    (Memory.readRange m a n)[i]? = some (Memory.read m (a + i)) := by
  simp [Memory.readRange, h]

/-- The frame with one more byte stored after a prefix. -/
theorem Memory.readRange_write_snoc (m : List Host.Cell) (n : Nat) (b : Byte) :
    Memory.readRange (Memory.write m n b) 0 (n + 1) = Memory.readRange m 0 n ++ [b] := by
  simp only [Memory.readRange, List.range_succ, List.map_append, List.map_cons, List.map_nil, Nat.zero_add,
    Memory.read_write_same, List.append_cancel_right_eq]
  refine List.map_congr_left fun i hi => Memory.read_write_other m b ?_
  have := List.mem_range.mp hi; omega

end Sys2Proof.Machine
end

