-- ==== Sys2Proof/Laws/State.lean ====
section
/-! SUPPORT. One lemma per field of the state for each update of it, so that no proof unfolds a record update. -/

namespace Sys2Proof.Machine

@[simp] theorem report_rxState (o : Output) (s : State) : (report o s).rxState = s.rxState := rfl
@[simp] theorem report_rxOffset (o : Output) (s : State) : (report o s).rxOffset = s.rxOffset := rfl
@[simp] theorem report_rxLength (o : Output) (s : State) : (report o s).rxLength = s.rxLength := rfl
@[simp] theorem report_rxExt (o : Output) (s : State) : (report o s).rxExt = s.rxExt := rfl
@[simp] theorem report_buf (o : Output) (s : State) : (report o s).buf = s.buf := rfl
@[simp] theorem report_protoVersion (o : Output) (s : State) : (report o s).protoVersion = s.protoVersion := rfl
@[simp] theorem report_hwType (o : Output) (s : State) : (report o s).hwType = s.hwType := rfl
@[simp] theorem report_cfgCommitted (o : Output) (s : State) : (report o s).cfgCommitted = s.cfgCommitted := rfl
@[simp] theorem report_cfgPending (o : Output) (s : State) : (report o s).cfgPending = s.cfgPending := rfl
@[simp] theorem report_ackWait (o : Output) (s : State) : (report o s).ackWait = s.ackWait := rfl
@[simp] theorem report_ackTries (o : Output) (s : State) : (report o s).ackTries = s.ackTries := rfl
@[simp] theorem report_ber (o : Output) (s : State) : (report o s).ber = s.ber := rfl
@[simp] theorem report_faultOvf (o : Output) (s : State) : (report o s).faultOvf = s.faultOvf := rfl
@[simp] theorem report_out (o : Output) (s : State) : (report o s).out = o := rfl
@[simp] theorem report_pending (o : Output) (s : State) : (report o s).pending = s.pending := rfl

@[simp] theorem resetFramer_rxState (s : State) : (resetFramer s).rxState = .awaitStart := rfl
@[simp] theorem resetFramer_rxOffset (s : State) : (resetFramer s).rxOffset = 0 := rfl
@[simp] theorem resetFramer_rxLength (s : State) : (resetFramer s).rxLength = 0 := rfl
@[simp] theorem resetFramer_rxExt (s : State) : (resetFramer s).rxExt = false := rfl
@[simp] theorem resetFramer_buf (s : State) : (resetFramer s).buf = s.buf := rfl
@[simp] theorem resetFramer_protoVersion (s : State) : (resetFramer s).protoVersion = s.protoVersion := rfl
@[simp] theorem resetFramer_hwType (s : State) : (resetFramer s).hwType = s.hwType := rfl
@[simp] theorem resetFramer_cfgCommitted (s : State) : (resetFramer s).cfgCommitted = s.cfgCommitted := rfl
@[simp] theorem resetFramer_cfgPending (s : State) : (resetFramer s).cfgPending = s.cfgPending := rfl
@[simp] theorem resetFramer_ackWait (s : State) : (resetFramer s).ackWait = s.ackWait := rfl
@[simp] theorem resetFramer_ackTries (s : State) : (resetFramer s).ackTries = s.ackTries := rfl
@[simp] theorem resetFramer_ber (s : State) : (resetFramer s).ber = s.ber := rfl
@[simp] theorem resetFramer_faultOvf (s : State) : (resetFramer s).faultOvf = s.faultOvf := rfl
@[simp] theorem resetFramer_out (s : State) : (resetFramer s).out = s.out := rfl
@[simp] theorem resetFramer_pending (s : State) : (resetFramer s).pending = s.pending := rfl

@[simp] theorem raiseError_rxState (r : RxStatus) (c : Cause) (n : Nat) (s : State) : (raiseError r c n s).rxState = .awaitStart := rfl
@[simp] theorem raiseError_rxOffset (r : RxStatus) (c : Cause) (n : Nat) (s : State) : (raiseError r c n s).rxOffset = 0 := rfl
@[simp] theorem raiseError_rxLength (r : RxStatus) (c : Cause) (n : Nat) (s : State) : (raiseError r c n s).rxLength = 0 := rfl
@[simp] theorem raiseError_rxExt (r : RxStatus) (c : Cause) (n : Nat) (s : State) : (raiseError r c n s).rxExt = false := rfl
@[simp] theorem raiseError_buf (r : RxStatus) (c : Cause) (n : Nat) (s : State) : (raiseError r c n s).buf = s.buf := rfl
@[simp] theorem raiseError_protoVersion (r : RxStatus) (c : Cause) (n : Nat) (s : State) : (raiseError r c n s).protoVersion = s.protoVersion := rfl
@[simp] theorem raiseError_hwType (r : RxStatus) (c : Cause) (n : Nat) (s : State) : (raiseError r c n s).hwType = s.hwType := rfl
@[simp] theorem raiseError_cfgCommitted (r : RxStatus) (c : Cause) (n : Nat) (s : State) : (raiseError r c n s).cfgCommitted = s.cfgCommitted := rfl
@[simp] theorem raiseError_cfgPending (r : RxStatus) (c : Cause) (n : Nat) (s : State) : (raiseError r c n s).cfgPending = s.cfgPending := rfl
@[simp] theorem raiseError_ackWait (r : RxStatus) (c : Cause) (n : Nat) (s : State) : (raiseError r c n s).ackWait = s.ackWait := rfl
@[simp] theorem raiseError_ackTries (r : RxStatus) (c : Cause) (n : Nat) (s : State) : (raiseError r c n s).ackTries = s.ackTries := rfl
@[simp] theorem raiseError_ber (r : RxStatus) (c : Cause) (n : Nat) (s : State) : (raiseError r c n s).ber = s.ber := rfl
@[simp] theorem raiseError_faultOvf (r : RxStatus) (c : Cause) (n : Nat) (s : State) : (raiseError r c n s).faultOvf = s.faultOvf := rfl
@[simp] theorem raiseError_out (r : RxStatus) (c : Cause) (n : Nat) (s : State) : (raiseError r c n s).out = { rxStatus := r, cause := c, info := n } := rfl
@[simp] theorem raiseError_pending (r : RxStatus) (c : Cause) (n : Nat) (s : State) : (raiseError r c n s).pending = s.pending := rfl

@[simp] theorem failDecode_rxState (c : Cause) (n : Nat) (s : State) : (failDecode c n s).rxState = s.rxState := rfl
@[simp] theorem failDecode_rxOffset (c : Cause) (n : Nat) (s : State) : (failDecode c n s).rxOffset = s.rxOffset := rfl
@[simp] theorem failDecode_rxLength (c : Cause) (n : Nat) (s : State) : (failDecode c n s).rxLength = s.rxLength := rfl
@[simp] theorem failDecode_rxExt (c : Cause) (n : Nat) (s : State) : (failDecode c n s).rxExt = s.rxExt := rfl
@[simp] theorem failDecode_buf (c : Cause) (n : Nat) (s : State) : (failDecode c n s).buf = s.buf := rfl
@[simp] theorem failDecode_protoVersion (c : Cause) (n : Nat) (s : State) : (failDecode c n s).protoVersion = s.protoVersion := rfl
@[simp] theorem failDecode_hwType (c : Cause) (n : Nat) (s : State) : (failDecode c n s).hwType = s.hwType := rfl
@[simp] theorem failDecode_cfgCommitted (c : Cause) (n : Nat) (s : State) : (failDecode c n s).cfgCommitted = s.cfgCommitted := rfl
@[simp] theorem failDecode_cfgPending (c : Cause) (n : Nat) (s : State) : (failDecode c n s).cfgPending = s.cfgPending := rfl
@[simp] theorem failDecode_ackWait (c : Cause) (n : Nat) (s : State) : (failDecode c n s).ackWait = s.ackWait := rfl
@[simp] theorem failDecode_ackTries (c : Cause) (n : Nat) (s : State) : (failDecode c n s).ackTries = s.ackTries := rfl
@[simp] theorem failDecode_ber (c : Cause) (n : Nat) (s : State) : (failDecode c n s).ber = s.ber := rfl
@[simp] theorem failDecode_faultOvf (c : Cause) (n : Nat) (s : State) : (failDecode c n s).faultOvf = s.faultOvf := rfl
@[simp] theorem failDecode_out (c : Cause) (n : Nat) (s : State) : (failDecode c n s).out = { s.out with cause := c, info := n } := rfl
@[simp] theorem failDecode_pending (c : Cause) (n : Nat) (s : State) : (failDecode c n s).pending = s.pending := rfl

@[simp] theorem refuse_rxState (c : Cause) (n : Nat) (s : State) : (refuse c n s).rxState = s.rxState := rfl
@[simp] theorem refuse_rxOffset (c : Cause) (n : Nat) (s : State) : (refuse c n s).rxOffset = s.rxOffset := rfl
@[simp] theorem refuse_rxLength (c : Cause) (n : Nat) (s : State) : (refuse c n s).rxLength = s.rxLength := rfl
@[simp] theorem refuse_rxExt (c : Cause) (n : Nat) (s : State) : (refuse c n s).rxExt = s.rxExt := rfl
@[simp] theorem refuse_buf (c : Cause) (n : Nat) (s : State) : (refuse c n s).buf = s.buf := rfl
@[simp] theorem refuse_protoVersion (c : Cause) (n : Nat) (s : State) : (refuse c n s).protoVersion = s.protoVersion := rfl
@[simp] theorem refuse_hwType (c : Cause) (n : Nat) (s : State) : (refuse c n s).hwType = s.hwType := rfl
@[simp] theorem refuse_cfgCommitted (c : Cause) (n : Nat) (s : State) : (refuse c n s).cfgCommitted = s.cfgCommitted := rfl
@[simp] theorem refuse_cfgPending (c : Cause) (n : Nat) (s : State) : (refuse c n s).cfgPending = s.cfgPending := rfl
@[simp] theorem refuse_ackWait (c : Cause) (n : Nat) (s : State) : (refuse c n s).ackWait = s.ackWait := rfl
@[simp] theorem refuse_ackTries (c : Cause) (n : Nat) (s : State) : (refuse c n s).ackTries = s.ackTries := rfl
@[simp] theorem refuse_ber (c : Cause) (n : Nat) (s : State) : (refuse c n s).ber = s.ber := rfl
@[simp] theorem refuse_faultOvf (c : Cause) (n : Nat) (s : State) : (refuse c n s).faultOvf = s.faultOvf := rfl
@[simp] theorem refuse_out (c : Cause) (n : Nat) (s : State) : (refuse c n s).out = { cmdStatus := .refused, cause := c, info := n } := rfl
@[simp] theorem refuse_pending (c : Cause) (n : Nat) (s : State) : (refuse c n s).pending = s.pending := rfl

@[simp] theorem overflow_rxState (id : CheckerId) (s : State) : (overflow id s).rxState = s.rxState := rfl
@[simp] theorem overflow_rxOffset (id : CheckerId) (s : State) : (overflow id s).rxOffset = s.rxOffset := rfl
@[simp] theorem overflow_rxLength (id : CheckerId) (s : State) : (overflow id s).rxLength = s.rxLength := rfl
@[simp] theorem overflow_rxExt (id : CheckerId) (s : State) : (overflow id s).rxExt = s.rxExt := rfl
@[simp] theorem overflow_buf (id : CheckerId) (s : State) : (overflow id s).buf = s.buf := rfl
@[simp] theorem overflow_protoVersion (id : CheckerId) (s : State) : (overflow id s).protoVersion = s.protoVersion := rfl
@[simp] theorem overflow_hwType (id : CheckerId) (s : State) : (overflow id s).hwType = s.hwType := rfl
@[simp] theorem overflow_cfgCommitted (id : CheckerId) (s : State) : (overflow id s).cfgCommitted = s.cfgCommitted := rfl
@[simp] theorem overflow_cfgPending (id : CheckerId) (s : State) : (overflow id s).cfgPending = s.cfgPending := rfl
@[simp] theorem overflow_ackWait (id : CheckerId) (s : State) : (overflow id s).ackWait = s.ackWait := rfl
@[simp] theorem overflow_ackTries (id : CheckerId) (s : State) : (overflow id s).ackTries = s.ackTries := rfl
@[simp] theorem overflow_ber (id : CheckerId) (s : State) : (overflow id s).ber = s.ber := rfl
@[simp] theorem overflow_faultOvf (id : CheckerId) (s : State) : (overflow id s).faultOvf = true := rfl
@[simp] theorem overflow_out (id : CheckerId) (s : State) : (overflow id s).out = { s.out with cause := .counterOverflow, info := checkerNumber id } := rfl
@[simp] theorem overflow_pending (id : CheckerId) (s : State) : (overflow id s).pending = s.pending := rfl

@[simp] theorem deliver_rxState (f : List Byte) (c : FrameClass) (s : State) : (deliver f c s).rxState = s.rxState := rfl
@[simp] theorem deliver_rxOffset (f : List Byte) (c : FrameClass) (s : State) : (deliver f c s).rxOffset = s.rxOffset := rfl
@[simp] theorem deliver_rxLength (f : List Byte) (c : FrameClass) (s : State) : (deliver f c s).rxLength = s.rxLength := rfl
@[simp] theorem deliver_rxExt (f : List Byte) (c : FrameClass) (s : State) : (deliver f c s).rxExt = s.rxExt := rfl
@[simp] theorem deliver_buf (f : List Byte) (c : FrameClass) (s : State) : (deliver f c s).buf = s.buf := rfl
@[simp] theorem deliver_protoVersion (f : List Byte) (c : FrameClass) (s : State) : (deliver f c s).protoVersion = s.protoVersion := rfl
@[simp] theorem deliver_hwType (f : List Byte) (c : FrameClass) (s : State) : (deliver f c s).hwType = s.hwType := rfl
@[simp] theorem deliver_cfgCommitted (f : List Byte) (c : FrameClass) (s : State) : (deliver f c s).cfgCommitted = s.cfgCommitted := rfl
@[simp] theorem deliver_cfgPending (f : List Byte) (c : FrameClass) (s : State) : (deliver f c s).cfgPending = s.cfgPending := rfl
@[simp] theorem deliver_ackWait (f : List Byte) (c : FrameClass) (s : State) : (deliver f c s).ackWait = s.ackWait := rfl
@[simp] theorem deliver_ackTries (f : List Byte) (c : FrameClass) (s : State) : (deliver f c s).ackTries = s.ackTries := rfl
@[simp] theorem deliver_ber (f : List Byte) (c : FrameClass) (s : State) : (deliver f c s).ber = s.ber := rfl
@[simp] theorem deliver_faultOvf (f : List Byte) (c : FrameClass) (s : State) : (deliver f c s).faultOvf = s.faultOvf := rfl
@[simp] theorem deliver_out (f : List Byte) (c : FrameClass) (s : State) : (deliver f c s).out = { rxStatus := .frameDone, frame := some f, cls := some c } := rfl
@[simp] theorem deliver_pending (f : List Byte) (c : FrameClass) (s : State) : (deliver f c s).pending = s.pending := rfl

@[simp] theorem acked_rxState (s : State) : (acked s).rxState = s.rxState := rfl
@[simp] theorem acked_rxOffset (s : State) : (acked s).rxOffset = s.rxOffset := rfl
@[simp] theorem acked_rxLength (s : State) : (acked s).rxLength = s.rxLength := rfl
@[simp] theorem acked_rxExt (s : State) : (acked s).rxExt = s.rxExt := rfl
@[simp] theorem acked_buf (s : State) : (acked s).buf = s.buf := rfl
@[simp] theorem acked_protoVersion (s : State) : (acked s).protoVersion = s.protoVersion := rfl
@[simp] theorem acked_hwType (s : State) : (acked s).hwType = s.hwType := rfl
@[simp] theorem acked_cfgCommitted (s : State) : (acked s).cfgCommitted = if s.ackWait = .waitConfig then s.cfgPending else s.cfgCommitted := rfl
@[simp] theorem acked_cfgPending (s : State) : (acked s).cfgPending = s.cfgPending := rfl
@[simp] theorem acked_ackWait (s : State) : (acked s).ackWait = .idle := rfl
@[simp] theorem acked_ackTries (s : State) : (acked s).ackTries = 0 := rfl
@[simp] theorem acked_ber (s : State) : (acked s).ber = s.ber := rfl
@[simp] theorem acked_faultOvf (s : State) : (acked s).faultOvf = s.faultOvf := rfl
@[simp] theorem acked_out (s : State) : (acked s).out = { s.out with link := .acked } := rfl
@[simp] theorem acked_pending (s : State) : (acked s).pending = s.pending := rfl

@[simp] theorem naked_rxState (f : List Byte) (s : State) : (naked f s).rxState = s.rxState := rfl
@[simp] theorem naked_rxOffset (f : List Byte) (s : State) : (naked f s).rxOffset = s.rxOffset := rfl
@[simp] theorem naked_rxLength (f : List Byte) (s : State) : (naked f s).rxLength = s.rxLength := rfl
@[simp] theorem naked_rxExt (f : List Byte) (s : State) : (naked f s).rxExt = s.rxExt := rfl
@[simp] theorem naked_buf (f : List Byte) (s : State) : (naked f s).buf = s.buf := rfl
@[simp] theorem naked_protoVersion (f : List Byte) (s : State) : (naked f s).protoVersion = s.protoVersion := rfl
@[simp] theorem naked_hwType (f : List Byte) (s : State) : (naked f s).hwType = s.hwType := rfl
@[simp] theorem naked_cfgCommitted (f : List Byte) (s : State) : (naked f s).cfgCommitted = s.cfgCommitted := rfl
@[simp] theorem naked_cfgPending (f : List Byte) (s : State) : (naked f s).cfgPending = s.cfgCommitted := rfl
@[simp] theorem naked_ackWait (f : List Byte) (s : State) : (naked f s).ackWait = .idle := rfl
@[simp] theorem naked_ackTries (f : List Byte) (s : State) : (naked f s).ackTries = 0 := rfl
@[simp] theorem naked_ber (f : List Byte) (s : State) : (naked f s).ber = s.ber := rfl
@[simp] theorem naked_faultOvf (f : List Byte) (s : State) : (naked f s).faultOvf = s.faultOvf := rfl
@[simp] theorem naked_out (f : List Byte) (s : State) : (naked f s).out = { s.out with link := .naked, linkInfo := f[Config.nakReasonOffset]? } := rfl
@[simp] theorem naked_pending (f : List Byte) (s : State) : (naked f s).pending = s.pending := rfl

@[simp] theorem unresponsive_rxState (s : State) : (unresponsive s).rxState = s.rxState := rfl
@[simp] theorem unresponsive_rxOffset (s : State) : (unresponsive s).rxOffset = s.rxOffset := rfl
@[simp] theorem unresponsive_rxLength (s : State) : (unresponsive s).rxLength = s.rxLength := rfl
@[simp] theorem unresponsive_rxExt (s : State) : (unresponsive s).rxExt = s.rxExt := rfl
@[simp] theorem unresponsive_buf (s : State) : (unresponsive s).buf = s.buf := rfl
@[simp] theorem unresponsive_protoVersion (s : State) : (unresponsive s).protoVersion = s.protoVersion := rfl
@[simp] theorem unresponsive_hwType (s : State) : (unresponsive s).hwType = s.hwType := rfl
@[simp] theorem unresponsive_cfgCommitted (s : State) : (unresponsive s).cfgCommitted = s.cfgCommitted := rfl
@[simp] theorem unresponsive_cfgPending (s : State) : (unresponsive s).cfgPending = s.cfgCommitted := rfl
@[simp] theorem unresponsive_ackWait (s : State) : (unresponsive s).ackWait = .idle := rfl
@[simp] theorem unresponsive_ackTries (s : State) : (unresponsive s).ackTries = 0 := rfl
@[simp] theorem unresponsive_ber (s : State) : (unresponsive s).ber = s.ber := rfl
@[simp] theorem unresponsive_faultOvf (s : State) : (unresponsive s).faultOvf = s.faultOvf := rfl
@[simp] theorem unresponsive_out (s : State) : (unresponsive s).out = { s.out with link := .unresponsive } := rfl
@[simp] theorem unresponsive_pending (s : State) : (unresponsive s).pending = s.pending := rfl

@[simp] theorem sendFrame_rxState (f : List Byte) (s : State) : (sendFrame f s).rxState = s.rxState := rfl
@[simp] theorem sendFrame_rxOffset (f : List Byte) (s : State) : (sendFrame f s).rxOffset = s.rxOffset := rfl
@[simp] theorem sendFrame_rxLength (f : List Byte) (s : State) : (sendFrame f s).rxLength = s.rxLength := rfl
@[simp] theorem sendFrame_rxExt (f : List Byte) (s : State) : (sendFrame f s).rxExt = s.rxExt := rfl
@[simp] theorem sendFrame_buf (f : List Byte) (s : State) : (sendFrame f s).buf = s.buf := rfl
@[simp] theorem sendFrame_protoVersion (f : List Byte) (s : State) : (sendFrame f s).protoVersion = s.protoVersion := rfl
@[simp] theorem sendFrame_hwType (f : List Byte) (s : State) : (sendFrame f s).hwType = s.hwType := rfl
@[simp] theorem sendFrame_cfgCommitted (f : List Byte) (s : State) : (sendFrame f s).cfgCommitted = s.cfgCommitted := rfl
@[simp] theorem sendFrame_cfgPending (f : List Byte) (s : State) : (sendFrame f s).cfgPending = s.cfgPending := rfl
@[simp] theorem sendFrame_ackWait (f : List Byte) (s : State) : (sendFrame f s).ackWait = s.ackWait := rfl
@[simp] theorem sendFrame_ackTries (f : List Byte) (s : State) : (sendFrame f s).ackTries = s.ackTries := rfl
@[simp] theorem sendFrame_ber (f : List Byte) (s : State) : (sendFrame f s).ber = s.ber := rfl
@[simp] theorem sendFrame_faultOvf (f : List Byte) (s : State) : (sendFrame f s).faultOvf = s.faultOvf := rfl
@[simp] theorem sendFrame_out (f : List Byte) (s : State) : (sendFrame f s).out = { tx := some f } := rfl
@[simp] theorem sendFrame_pending (f : List Byte) (s : State) : (sendFrame f s).pending = s.pending := rfl

@[simp] theorem armTracker_rxState (w : AckWait) (s : State) : (armTracker w s).rxState = s.rxState := rfl
@[simp] theorem armTracker_rxOffset (w : AckWait) (s : State) : (armTracker w s).rxOffset = s.rxOffset := rfl
@[simp] theorem armTracker_rxLength (w : AckWait) (s : State) : (armTracker w s).rxLength = s.rxLength := rfl
@[simp] theorem armTracker_rxExt (w : AckWait) (s : State) : (armTracker w s).rxExt = s.rxExt := rfl
@[simp] theorem armTracker_buf (w : AckWait) (s : State) : (armTracker w s).buf = s.buf := rfl
@[simp] theorem armTracker_protoVersion (w : AckWait) (s : State) : (armTracker w s).protoVersion = s.protoVersion := rfl
@[simp] theorem armTracker_hwType (w : AckWait) (s : State) : (armTracker w s).hwType = s.hwType := rfl
@[simp] theorem armTracker_cfgCommitted (w : AckWait) (s : State) : (armTracker w s).cfgCommitted = s.cfgCommitted := rfl
@[simp] theorem armTracker_cfgPending (w : AckWait) (s : State) : (armTracker w s).cfgPending = s.cfgPending := rfl
@[simp] theorem armTracker_ackWait (w : AckWait) (s : State) : (armTracker w s).ackWait = w := rfl
@[simp] theorem armTracker_ackTries (w : AckWait) (s : State) : (armTracker w s).ackTries = 0 := rfl
@[simp] theorem armTracker_ber (w : AckWait) (s : State) : (armTracker w s).ber = s.ber := rfl
@[simp] theorem armTracker_faultOvf (w : AckWait) (s : State) : (armTracker w s).faultOvf = s.faultOvf := rfl
@[simp] theorem armTracker_out (w : AckWait) (s : State) : (armTracker w s).out = s.out := rfl
@[simp] theorem armTracker_pending (w : AckWait) (s : State) : (armTracker w s).pending = s.pending := rfl

@[simp] theorem sendConfig_rxState (l : Layout) (c : Cfg) (s : State) : (sendConfig l c s).rxState = s.rxState := rfl
@[simp] theorem sendConfig_rxOffset (l : Layout) (c : Cfg) (s : State) : (sendConfig l c s).rxOffset = s.rxOffset := rfl
@[simp] theorem sendConfig_rxLength (l : Layout) (c : Cfg) (s : State) : (sendConfig l c s).rxLength = s.rxLength := rfl
@[simp] theorem sendConfig_rxExt (l : Layout) (c : Cfg) (s : State) : (sendConfig l c s).rxExt = s.rxExt := rfl
@[simp] theorem sendConfig_buf (l : Layout) (c : Cfg) (s : State) : (sendConfig l c s).buf = s.buf := rfl
@[simp] theorem sendConfig_protoVersion (l : Layout) (c : Cfg) (s : State) : (sendConfig l c s).protoVersion = s.protoVersion := rfl
@[simp] theorem sendConfig_hwType (l : Layout) (c : Cfg) (s : State) : (sendConfig l c s).hwType = s.hwType := rfl
@[simp] theorem sendConfig_cfgCommitted (l : Layout) (c : Cfg) (s : State) : (sendConfig l c s).cfgCommitted = s.cfgCommitted := rfl
@[simp] theorem sendConfig_cfgPending (l : Layout) (c : Cfg) (s : State) : (sendConfig l c s).cfgPending = c := rfl
@[simp] theorem sendConfig_ackWait (l : Layout) (c : Cfg) (s : State) : (sendConfig l c s).ackWait = .waitConfig := rfl
@[simp] theorem sendConfig_ackTries (l : Layout) (c : Cfg) (s : State) : (sendConfig l c s).ackTries = 0 := rfl
@[simp] theorem sendConfig_ber (l : Layout) (c : Cfg) (s : State) : (sendConfig l c s).ber = s.ber := rfl
@[simp] theorem sendConfig_faultOvf (l : Layout) (c : Cfg) (s : State) : (sendConfig l c s).faultOvf = s.faultOvf := rfl
@[simp] theorem sendConfig_out (l : Layout) (c : Cfg) (s : State) : (sendConfig l c s).out = { tx := some (encodeCfg l c) } := rfl
@[simp] theorem sendConfig_pending (l : Layout) (c : Cfg) (s : State) : (sendConfig l c s).pending = s.pending := rfl

@[simp] theorem present_rxState (e : Event) (s : State) : (present e s).rxState = s.rxState := rfl
@[simp] theorem present_rxOffset (e : Event) (s : State) : (present e s).rxOffset = s.rxOffset := rfl
@[simp] theorem present_rxLength (e : Event) (s : State) : (present e s).rxLength = s.rxLength := rfl
@[simp] theorem present_rxExt (e : Event) (s : State) : (present e s).rxExt = s.rxExt := rfl
@[simp] theorem present_buf (e : Event) (s : State) : (present e s).buf = s.buf := rfl
@[simp] theorem present_protoVersion (e : Event) (s : State) : (present e s).protoVersion = s.protoVersion := rfl
@[simp] theorem present_hwType (e : Event) (s : State) : (present e s).hwType = s.hwType := rfl
@[simp] theorem present_cfgCommitted (e : Event) (s : State) : (present e s).cfgCommitted = s.cfgCommitted := rfl
@[simp] theorem present_cfgPending (e : Event) (s : State) : (present e s).cfgPending = s.cfgPending := rfl
@[simp] theorem present_ackWait (e : Event) (s : State) : (present e s).ackWait = s.ackWait := rfl
@[simp] theorem present_ackTries (e : Event) (s : State) : (present e s).ackTries = s.ackTries := rfl
@[simp] theorem present_ber (e : Event) (s : State) : (present e s).ber = s.ber := rfl
@[simp] theorem present_faultOvf (e : Event) (s : State) : (present e s).faultOvf = s.faultOvf := rfl
@[simp] theorem present_out (e : Event) (s : State) : (present e s).out = s.out := rfl
@[simp] theorem present_pending (e : Event) (s : State) : (present e s).pending = e :: s.pending := rfl

@[simp] theorem bankOf_setBank_same (b : BerBanks) (id : CheckerId) (v : BerBank) :
    bankOf (setBank b id v) id = v := by
  cases id <;> rfl

theorem bankOf_setBank_other (b : BerBanks) {i j : CheckerId} (v : BerBank) (h : i ≠ j) :
    bankOf (setBank b i v) j = bankOf b j := by
  cases i <;> cases j <;> first | rfl | exact absurd rfl h

@[simp] theorem bankOf_mapBanks (b : BerBanks) (g : BerBank → BerBank) (id : CheckerId) :
    bankOf (mapBanks b g) id = g (bankOf b id) := by
  cases id <;> rfl

/-- Two tables of banks with the same bank for every id are equal. -/
theorem banks_ext {b c : BerBanks} (h : ∀ id, bankOf b id = bankOf c id) : b = c := by
  cases b; cases c
  have h0 := h .dstar; have h1 := h .dmr; have h2 := h .dmr1031
  have h3 := h .ysf; have h4 := h .p25; have h5 := h .nxdn
  simp only [bankOf] at h0 h1 h2 h3 h4 h5
  simp [h0, h1, h2, h3, h4, h5]

end Sys2Proof.Machine
end

