-- ==== Sys2Proof/Laws/Ops.lean ====
section
/-! SUPPORT. For each shared operation, once, everything it can do; proofs cite these instead of unfolding it. -/

namespace Sys2Proof.Machine

/-- The tracker does nothing, or takes an ACK, a NAK or a failed attempt of an awaited command (41_codec.md R192 to R196). -/
theorem track_cases (s : State) :
    ((s.ackWait = .idle ∨ s.out.rxStatus = .cont) ∧ track s = s) ∨
    (s.ackWait ≠ .idle ∧ s.out.rxStatus ≠ .cont ∧
      ((s.out.cls = some .ack ∧ track s = acked s) ∨
       (∃ f, s.out.cls = some .nak ∧ s.out.frame = some f ∧ track s = naked f s) ∨
       (s.out.cls ≠ some .ack ∧ s.ackTries + 1 = Config.ackMaxTries ∧ track s = unresponsive s) ∨
       (s.out.cls ≠ some .ack ∧ s.ackTries + 1 ≠ Config.ackMaxTries ∧
          track s = { s with ackTries := s.ackTries + 1 }))) := by
  by_cases hi : s.ackWait = .idle ∨ s.out.rxStatus = .cont
  · refine .inl ⟨hi, ?_⟩
    rcases hi with h | h <;> simp [track, awaiting, endsPoll, h]
  · obtain ⟨ha, hr⟩ := not_or.mp hi
    refine .inr ⟨ha, hr, ?_⟩
    have hg : (awaiting s && endsPoll s.out.rxStatus) = true := by simp [awaiting, endsPoll, ha, hr]
    have key : (s.ackTries + 1 = Config.ackMaxTries ∧ failedAttempt s = unresponsive s) ∨
        (s.ackTries + 1 ≠ Config.ackMaxTries ∧ failedAttempt s = { s with ackTries := s.ackTries + 1 }) := by
      by_cases h : s.ackTries + 1 = Config.ackMaxTries <;> simp [failedAttempt, h]
    unfold track
    rw [if_pos hg]
    split
    · next hc => exact .inl ⟨hc, rfl⟩
    · next f hc hf => exact .inr (.inl ⟨f, hc, hf, rfl⟩)
    · next hc _ =>
      have hc' : s.out.cls ≠ some .ack := hc
      rcases key with ⟨h, he⟩ | ⟨h, he⟩
      · exact .inr (.inr (.inl ⟨hc', h, he⟩))
      · exact .inr (.inr (.inr ⟨hc', h, he⟩))

/-- The version decoder fails with one of its three causes and writes no register, or writes both registers
(41_codec.md R186). -/
theorem decodeVersion_cases (f : List Byte) (s : State) :
    (∃ c n, (c = .malformedResponse ∨ c = .unsupportedVersion ∨ c = .boardNotSupported) ∧
      (n ≤ f.length ∨ n < 256) ∧ decodeVersion f s = failDecode c n s) ∨
    (∃ v h, decodeVersion f s = { s with protoVersion := some v, hwType := some h }) := by
  have key : ∀ v o, (∃ c n, (c = .malformedResponse ∨ c = .unsupportedVersion ∨ c = .boardNotSupported) ∧
      (n ≤ f.length ∨ n < 256) ∧ decodeBoard f v o s = failDecode c n s) ∨
      (∃ w h, decodeBoard f v o s = { s with protoVersion := some w, hwType := some h }) := by
    intro v o
    unfold decodeBoard
    split
    · exact .inl ⟨_, _, .inl rfl, .inl le_rfl, rfl⟩
    · split
      · exact .inl ⟨_, _, .inr (.inr rfl), .inl (Nat.zero_le _), rfl⟩
      · next h _ => exact .inr ⟨v, h, rfl⟩
  unfold decodeVersion
  split
  · exact .inl ⟨_, _, .inl rfl, .inl le_rfl, rfl⟩
  · next v _ =>
    split
    · exact key .v1 Config.descOffsetV1
    · split
      · exact key .v2 Config.descOffsetV2
      · exact .inl ⟨_, _, .inr (.inl rfl), .inr v.isLt, rfl⟩

/-- An accumulation overflows and touches no bank, or adds to its own bank alone (42_fec_ber.md R234, R239). -/
theorem accumulate_cases (id : CheckerId) (errs nbits : Nat) (s : State) :
    (wouldOverflow (bankOf s.ber id) errs nbits = true ∧ accumulate id errs nbits s = overflow id s) ∨
    (wouldOverflow (bankOf s.ber id) errs nbits = false ∧
      accumulate id errs nbits s = { s with ber := setBank s.ber id (bankAdd (bankOf s.ber id) errs nbits) }) := by
  cases h : wouldOverflow (bankOf s.ber id) errs nbits <;> simp [accumulate, h]

/-- A frame that is scored has a tag, a selected checker and a result of that checker (42_fec_ber.md R233). -/
theorem scoreFrame_some {select subtype desc mode f id errs nbits}
    (h : scoreFrame select subtype desc mode f = some (id, errs, nbits)) :
    ∃ t, frameTag f = some t ∧ select mode t = some id ∧
      checkFrame (desc id) (subtype t) (framePayload f) = some (errs, nbits) := by
  unfold scoreFrame at h
  split at h
  · cases h
  · next t ht =>
    split at h
    · cases h
    · next k hk =>
      split at h
      · cases h
      · next e n hc =>
        obtain ⟨rfl, rfl, rfl⟩ : k = id ∧ e = errs ∧ n = nbits := by simpa using h
        exact ⟨t, ht, hk, hc⟩

/-- The bank dispatch changes nothing, or accumulates the score of the frame (42_fec_ber.md R233). -/
theorem berDispatch_cases (f : List Byte) (s : State) :
    berDispatch f s = s ∨
    ∃ id errs nbits,
      scoreFrame Config.checkerSelect Config.subtypeOf Config.checkerDesc (modeByte s.cfgCommitted) f
        = some (id, errs, nbits) ∧
      berDispatch f s = accumulate id errs nbits s := by
  unfold berDispatch
  split
  · exact .inl rfl
  · next id errs nbits h => exact .inr ⟨id, errs, nbits, h, rfl⟩

/-- The class that a received-frame row dispatches with; for any other instruction the run stops. -/
theorem runReceived_cases (i : Instr) (s : State) :
    (∃ c f, runReceived i s = .next (dispatchFrame c f s)) ∨ runReceived i s = .fault (.noFrame .noRow) := by
  cases i <;> first
    | exact .inr rfl
    | exact .inl ⟨_, _, rfl⟩

/-- A row's meaning dispatches the row's frame with one class for every frame and state. -/
theorem runReceived_row {r : FrameRow} (hr : r ∈ receivedTable) (t : Byte) (ht : (t &&& r.mask == r.pattern) = true) :
    ∀ f s, runReceived (r.make f) s = .next (dispatchFrame (classOfTag t) f s) := by
  fin_cases hr <;>
    first
    | (have hc : classOfTag t = .version := by revert t; decide +kernel
       intro f s; rw [hc]; rfl)
    | (have hc : classOfTag t = .status := by revert t; decide +kernel
       intro f s; rw [hc]; rfl)
    | (have hc : classOfTag t = .other := by revert t; decide +kernel
       intro f s; rw [hc]; rfl)
    | (have hc : classOfTag t = .codecData := by revert t; decide +kernel
       intro f s; rw [hc]; rfl)
    | (have hc : classOfTag t = .ack := by revert t; decide +kernel
       intro f s; rw [hc]; rfl)
    | (have hc : classOfTag t = .nak := by revert t; decide +kernel
       intro f s; rw [hc]; rfl)
    | (have hc : classOfTag t = .debug := by revert t; decide +kernel
       intro f s; rw [hc]; rfl)

/-- A byte sequence with start marker and tag is received and dispatched with the class of its tag (41_codec.md R184). -/
theorem receiveFrame_of_tag {f : List Byte} {t : Byte} (hm : f[0]? = some Config.startMarker)
    (ht : frameTag f = some t) (s : State) :
    receiveFrame f s = .next (dispatchFrame (classOfTag t) f s) := by
  obtain ⟨r, hr⟩ := Option.isSome_iff_exists.mp (receivedTable_covers t)
  have hd : decodeReceived f = .ok (r.make f) := by
    simp only [decodeReceived, hm, ht, beq_self_eq_true, if_true, hr]
  have hmem := List.mem_of_find?_eq_some hr
  have hp := List.find?_some hr
  simp only [receiveFrame, hd]
  exact runReceived_row hmem t hp f s

/-- What a delivery can answer: the frame has start marker and tag and is dispatched, or the run stops. -/
theorem receiveFrame_cases (f : List Byte) (s : State) :
    (∃ t, f[0]? = some Config.startMarker ∧ frameTag f = some t ∧
      receiveFrame f s = .next (dispatchFrame (classOfTag t) f s)) ∨
    ∃ e, receiveFrame f s = .fault (.noFrame e) := by
  by_cases hm : f[0]? = some Config.startMarker
  · cases ht : frameTag f with
    | none => exact .inr ⟨.truncated, by simp [receiveFrame, decodeReceived, hm, ht]⟩
    | some t => exact .inl ⟨t, hm, rfl, receiveFrame_of_tag hm ht s⟩
  · exact .inr ⟨.badMarker, by simp [receiveFrame, decodeReceived, hm]⟩

/-- A type or payload byte is absorbed, or it is the last one and the frame in the buffer is dispatched
(40_framer.md R139 to R141). -/
theorem rxFrameByte_cases {b : Byte} {s t : State} (h : rxFrameByte b s = .next t) :
    s.rxOffset < Config.bufBytes ∧
    ((s.rxOffset + 1 ≠ s.rxLength ∧
      t = { s with
        buf := Memory.write s.buf s.rxOffset b, rxOffset := s.rxOffset + 1, rxState := .awaitPayload, out := {} }) ∨
     (s.rxOffset + 1 = s.rxLength ∧ ∃ f g,
      Memory.readRange (Memory.write s.buf s.rxOffset b) 0 s.rxLength = f ∧ f[0]? = some Config.startMarker ∧
      frameTag f = some g ∧
      t = dispatchFrame (classOfTag g) f (resetFramer { s with buf := Memory.write s.buf s.rxOffset b }))) := by
  unfold rxFrameByte at h
  split at h
  · next hb =>
    refine ⟨hb, ?_⟩
    split at h
    · next hl =>
      refine .inr ⟨hl, ?_⟩
      unfold completeFrame at h
      rcases receiveFrame_cases (Memory.readRange (Memory.write s.buf s.rxOffset b) 0 s.rxLength)
        (resetFramer { s with buf := Memory.write s.buf s.rxOffset b }) with ⟨g, hm, hg, he⟩ | ⟨e, he⟩
      · rw [he] at h
        exact ⟨_, g, rfl, hm, hg, (Host.Outcome.next.inj h).symm⟩
      · rw [he] at h; cases h
    · next hl => exact .inl ⟨hl, (Host.Outcome.next.inj h).symm⟩
  · cases h

/-- Everything `RXB` can answer as a next state: a noise byte, a byte absorbed at one buffer index, an invalid length, a
delivered frame (40_framer.md R131 to R141). -/
theorem execRxb_cases {b : Byte} {s t : State} (h : execRxb b s = .next t) :
    (s.rxState = .awaitStart ∧ b ≠ Config.startMarker ∧ t = report {} s) ∨
    (∃ a st off len ext,
      t = { s with
        buf := Memory.write s.buf a b, rxState := st, rxOffset := off, rxLength := len, rxExt := ext, out := {} }) ∨
    (∃ v, v < 65536 ∧ t = invalidLength v s) ∨
    (∃ f g, (s.rxState = .awaitType ∨ s.rxState = .awaitPayload) ∧ s.rxOffset < Config.bufBytes ∧
      s.rxOffset + 1 = s.rxLength ∧
      Memory.readRange (Memory.write s.buf s.rxOffset b) 0 s.rxLength = f ∧ f[0]? = some Config.startMarker ∧
      frameTag f = some g ∧
      t = dispatchFrame (classOfTag g) f (resetFramer { s with buf := Memory.write s.buf s.rxOffset b })) := by
  unfold execRxb at h
  split at h
  · next hs =>
    obtain rfl := Host.Outcome.next.inj h
    unfold rxAwaitStart
    split
    · exact .inr (.inl ⟨_, _, _, _, _, rfl⟩)
    · next hb => exact .inl ⟨hs, hb, rfl⟩
  · obtain rfl := Host.Outcome.next.inj h
    have hlt : b.toNat < 65536 := b.isLt.trans (by decide)
    unfold rxAwaitLength
    split
    · exact .inr (.inr (.inl ⟨_, hlt, rfl⟩))
    · split
      · exact .inr (.inl ⟨_, _, _, _, _, rfl⟩)
      · split
        · exact .inr (.inr (.inl ⟨_, hlt, rfl⟩))
        · exact .inr (.inl ⟨_, _, _, _, _, rfl⟩)
  · unfold rxAwaitExtLen at h
    split at h
    · exact .inr (.inl ⟨_, _, _, _, _, (Host.Outcome.next.inj h).symm⟩)
    · split at h
      · split at h
        · exact .inr (.inl ⟨_, _, _, _, _, (Host.Outcome.next.inj h).symm⟩)
        · refine .inr (.inr (.inl ⟨_, ?_, (Host.Outcome.next.inj h).symm⟩))
          have := (Memory.read s.buf 2).isLt; have := b.isLt
          simp only [bigEndian16]; omega
      · cases h
  · next hs =>
    rcases rxFrameByte_cases h with ⟨hb, ⟨_, ht⟩ | ⟨hl, f, g, hf, hm, hg, ht⟩⟩
    · exact .inr (.inl ⟨_, _, _, _, _, ht⟩)
    · exact .inr (.inr (.inr ⟨f, g, .inl hs, hb, hl, hf, hm, hg, ht⟩))
  · next hs =>
    rcases rxFrameByte_cases h with ⟨hb, ⟨_, ht⟩ | ⟨hl, f, g, hf, hm, hg, ht⟩⟩
    · exact .inr (.inl ⟨_, _, _, _, _, ht⟩)
    · exact .inr (.inr (.inr ⟨f, g, .inr hs, hb, hl, hf, hm, hg, ht⟩))

/-- `decode_cfg` has a result exactly when the four preconditions on `g` hold (41_codec.md R179). -/
theorem decodeCfg_isSome_iff (l : Layout) (g : List Byte) :
    (decodeCfg l g).isSome = true ↔
      g.length = l.total ∧ g[0]? = some Config.startMarker ∧ (g[1]?).map BitVec.toNat = some l.total ∧
        g[2]? = some Config.tagSetConfig := by
  unfold decodeCfg
  split <;> simp_all

/-- No frame of a layout whose `total` is no byte is decoded (41_codec.md R179). -/
theorem decodeCfg_of_total_ge {l : Layout} (h : 256 ≤ l.total) (g : List Byte) : decodeCfg l g = none := by
  by_contra hc
  obtain ⟨-, -, h1, -⟩ := (decodeCfg_isSome_iff l g).mp (Option.isSome_iff_ne_none.mpr hc)
  obtain ⟨b, -, hb⟩ := Option.map_eq_some_iff.mp h1
  have := b.isLt; omega

/-- A step with no event waiting changes nothing; with one it runs the instruction of that event (00_scope.md R7). -/
theorem step_cases (s : State) :
    (s.pending = [] ∧ step s = .next s) ∨
    (∃ e rest i, s.pending = e :: rest ∧ decodeEvent e = .ok i ∧ step s = exec i { s with pending := rest }) := by
  cases hp : s.pending with
  | nil => exact .inl ⟨rfl, by simp [step, nextEvent, hp]⟩
  | cons e rest =>
    obtain ⟨i, hi⟩ := decodeEvent_total e
    exact .inr ⟨e, rest, i, rfl, hi, by simp [step, nextEvent, hp, hi]⟩

end Sys2Proof.Machine
end

