-- ==== Sys2Proof/Laws/Frames.lean ====
section
/-! SUPPORT. Which fields each shared operation leaves alone, each as one equation; what an event of each port can
answer; runs over a list of events. -/

namespace Sys2Proof.Machine

/-- The valid extended lengths as inequalities (30_encoding.md R93). -/
theorem validExtLength_iff (x : Nat) : validExtLength x = true ↔ 5 ≤ x ∧ x ≤ 65535 := by
  unfold validExtLength
  rw [Bool.and_eq_true, decide_eq_true_iff, decide_eq_true_iff]
  exact Iff.rfl

/-- The valid short lengths as inequalities (30_encoding.md R93). -/
theorem validShortLength_iff (l : Nat) : validShortLength l = true ↔ 3 ≤ l ∧ l < 250 := by
  unfold validShortLength
  rw [Bool.and_eq_true, decide_eq_true_iff, decide_eq_true_iff]
  exact Iff.rfl

/-! ## What each operation of a delivery keeps -/

/-- The tracker writes the configuration registers, its own two registers and the link fields, nothing else. -/
theorem track_keeps (s : State) :
    track s = { s with
      cfgCommitted := (track s).cfgCommitted, cfgPending := (track s).cfgPending,
      ackWait := (track s).ackWait, ackTries := (track s).ackTries,
      out := { s.out with link := (track s).out.link, linkInfo := (track s).out.linkInfo } } := by
  rcases track_cases s with ⟨_, h⟩ | ⟨_, _, ⟨_, h⟩ | ⟨_, _, _, h⟩ | ⟨_, _, h⟩ | ⟨_, _, h⟩⟩ <;> rw [h] <;>
    simp [acked, naked, unresponsive]

/-- The version decoder writes the two version registers, the cause and its info, nothing else. -/
theorem decodeVersion_keeps (f : List Byte) (s : State) :
    decodeVersion f s = { s with
      protoVersion := (decodeVersion f s).protoVersion, hwType := (decodeVersion f s).hwType,
      out := { s.out with cause := (decodeVersion f s).out.cause, info := (decodeVersion f s).out.info } } := by
  rcases decodeVersion_cases f s with ⟨_, _, _, _, h⟩ | ⟨_, _, h⟩ <;> simp [h, failDecode, report]

/-- The bank dispatch writes the banks, the overflow flag, the cause and its info, nothing else. -/
theorem berDispatch_keeps (f : List Byte) (s : State) :
    berDispatch f s = { s with
      ber := (berDispatch f s).ber, faultOvf := (berDispatch f s).faultOvf,
      out := { s.out with cause := (berDispatch f s).out.cause, info := (berDispatch f s).out.info } } := by
  rcases berDispatch_cases f s with h | ⟨id, e, n, _, h⟩
  · rw [h]
  · rw [h]
    rcases accumulate_cases id e n s with ⟨_, h⟩ | ⟨_, h⟩ <;> simp [h, overflow]

/-- A delivery is the bank dispatch after the tracker for codec data, the tracker after the decoder for a version
response, and the tracker alone for every other class (41_codec.md R184). -/
theorem dispatchFrame_eq (c : FrameClass) (f : List Byte) (s : State) :
    dispatchFrame c f s =
      if c = .codecData then berDispatch f (track (deliver f c s))
      else track (if c = .version then decodeVersion f (deliver f c s) else deliver f c s) := by
  unfold dispatchFrame
  by_cases h : c = .codecData <;> simp [h]

/-- A delivery writes no framer register, no buffer byte and no waiting event. -/
theorem dispatchFrame_keeps (c : FrameClass) (f : List Byte) (s : State) :
    (dispatchFrame c f s).rxState = s.rxState ∧ (dispatchFrame c f s).rxOffset = s.rxOffset ∧
    (dispatchFrame c f s).rxLength = s.rxLength ∧ (dispatchFrame c f s).rxExt = s.rxExt ∧
    (dispatchFrame c f s).buf = s.buf ∧ (dispatchFrame c f s).pending = s.pending := by
  rw [dispatchFrame_eq]
  split
  · rw [berDispatch_keeps, track_keeps]; exact ⟨rfl, rfl, rfl, rfl, rfl, rfl⟩
  · rw [track_keeps]
    split
    · rw [decodeVersion_keeps]; exact ⟨rfl, rfl, rfl, rfl, rfl, rfl⟩
    · exact ⟨rfl, rfl, rfl, rfl, rfl, rfl⟩

/-- What every delivery reports: the frame and its class, no host command, nothing sent, no BER report. -/
theorem dispatchFrame_out (c : FrameClass) (f : List Byte) (s : State) :
    (dispatchFrame c f s).out.rxStatus = .frameDone ∧ (dispatchFrame c f s).out.frame = some f ∧
    (dispatchFrame c f s).out.cls = some c ∧ (dispatchFrame c f s).out.cmdStatus = .ok ∧
    (dispatchFrame c f s).out.tx = none ∧ (dispatchFrame c f s).out.report = [] := by
  rw [dispatchFrame_eq]
  split
  · rw [berDispatch_keeps, track_keeps]; exact ⟨rfl, rfl, rfl, rfl, rfl, rfl⟩
  · rw [track_keeps]
    split
    · rw [decodeVersion_keeps]; exact ⟨rfl, rfl, rfl, rfl, rfl, rfl⟩
    · exact ⟨rfl, rfl, rfl, rfl, rfl, rfl⟩

/-! ## What an event can answer -/

/-- The tracker on a report without a frame: nothing, or one failed attempt (41_codec.md R192, R195). -/
theorem track_noFrame {s : State} (h : s.out.cls = none) :
    ∃ p w n l, track s = { s with cfgPending := p, ackWait := w, ackTries := n, out := { s.out with link := l } } := by
  rcases track_cases s with ⟨_, e⟩ | ⟨_, _, ⟨h', e⟩ | ⟨_, h', _, e⟩ | ⟨_, _, e⟩ | ⟨_, _, e⟩⟩
  · rw [e]; exact ⟨_, _, _, _, rfl⟩
  · rw [h] at h'; cases h'
  · rw [h] at h'; cases h'
  · rw [e]; exact ⟨_, _, _, _, rfl⟩
  · rw [e]; exact ⟨_, _, _, _, rfl⟩

/-- A framing error resets the four framer registers and may count as a failed attempt (60_exceptions.md R285). -/
theorem invalidLength_cases (v : Nat) (s : State) :
    ∃ p w n l, invalidLength v s = { resetFramer s with
      cfgPending := p, ackWait := w, ackTries := n,
      out := { rxStatus := .protocolError, cause := .invalidLength, info := v, link := l } } := by
  obtain ⟨p, w, n, l, h⟩ := track_noFrame (s := raiseError .protocolError .invalidLength v s) rfl
  exact ⟨p, w, n, l, h⟩

/-- `RXIDLE` writes nothing but the tracker's registers (40_framer.md R142). -/
theorem execRxidle_cases (d : Byte) (s : State) :
    ∃ p w n l, execRxidle d s = .next { s with
      cfgPending := p, ackWait := w, ackTries := n, out := { rxStatus := .wouldBlock, link := l } } := by
  obtain ⟨p, w, n, l, h⟩ := track_noFrame (s := report { rxStatus := .wouldBlock } s) rfl
  exact ⟨p, w, n, l, congrArg Host.Outcome.next h⟩

/-- `RXERR` resets the framer and writes nothing else but the tracker's registers (40_framer.md R143). -/
theorem execRxerr_cases (v : Bool) (d : Byte) (s : State) :
    ∃ p w n l, execRxerr v d s = .next { resetFramer s with
      cfgPending := p, ackWait := w, ackTries := n,
      out := { rxStatus := .transportError, cause := .transportReadError, link := l } } := by
  obtain ⟨p, w, n, l, h⟩ := track_noFrame (s := raiseError .transportError .transportReadError 0 s) rfl
  exact ⟨p, w, n, l, congrArg Host.Outcome.next h⟩

/-- What a host opcode can answer: only the output, an armed tracker with or without a pending configuration, a tick of
the banks, or the reset state. -/
theorem execHost_cases {r : HostRow} {op : BitVec 8} {x : Operands} (hr : r ∈ hostTable) {s t : State}
    (h : exec (r.make op x) s = .next t) :
    (∃ o, t = { s with out := o }) ∨
    (∃ o c v, s.ackWait = .idle ∧ c.valid ∧ s.protoVersion = some v ∧
      t = { s with cfgPending := c, ackWait := .waitConfig, ackTries := 0, out := o }) ∨
    (∃ o, s.ackWait = .idle ∧ t = { s with ackWait := .waitFreq, ackTries := 0, out := o }) ∨
    (∃ o, t = { s with ber := mapBanks s.ber bankTick, out := o }) ∨
    t = { State.reset with pending := s.pending } := by
  have config : ∀ c, exec (.cmdSetConfig c) s = .next t →
      (∃ o, t = { s with out := o }) ∨
      ∃ o c v, s.ackWait = .idle ∧ c.valid ∧ s.protoVersion = some v ∧
        t = { s with cfgPending := c, ackWait := .waitConfig, ackTries := 0, out := o } := by
    intro c h
    simp only [exec, execCmdSetConfig] at h
    split at h
    · exact .inl ⟨_, (Host.Outcome.next.inj h).symm⟩
    · next hn =>
      split at h
      · exact .inl ⟨_, (Host.Outcome.next.inj h).symm⟩
      · next v hv =>
        split at h
        · next hc =>
          cases v <;>
            exact .inr ⟨_, _, _, by simpa [awaiting] using hn, hc, hv, (Host.Outcome.next.inj h).symm⟩
        · exact .inl ⟨_, (Host.Outcome.next.inj h).symm⟩
  have freq : ∀ f p, exec (.cmdSetFreq f p) s = .next t →
      (∃ o, t = { s with out := o }) ∨
      ∃ o, s.ackWait = .idle ∧ t = { s with ackWait := .waitFreq, ackTries := 0, out := o } := by
    intro f p h
    simp only [exec, execCmdSetFreq] at h
    split at h
    · exact .inl ⟨_, (Host.Outcome.next.inj h).symm⟩
    · next hn => exact .inr ⟨_, by simpa [awaiting] using hn, (Host.Outcome.next.inj h).symm⟩
  have read : ∀ n, exec (.berRead n) s = .next t → ∃ o, t = { s with out := o } := by
    intro n h
    simp only [exec, execBerRead] at h
    split at h <;> exact ⟨_, (Host.Outcome.next.inj h).symm⟩
  fin_cases hr <;> first
    | exact .inl ⟨_, (Host.Outcome.next.inj h).symm⟩
    | exact (config _ h).imp_right .inl
    | exact (freq _ _ h).imp_right (.inr ∘ .inl)
    | exact .inl (read _ h)
    | exact .inr (.inr (.inr (.inl ⟨_, (Host.Outcome.next.inj h).symm⟩)))
    | exact .inr (.inr (.inr (.inr (Host.Outcome.next.inj h).symm)))

/-- The instructions that events decode to: the three transport words and the rows of the host table. -/
theorem decodeEvent_cases {e : Event} {i : Instr} (h : decodeEvent e = .ok i) :
    (∃ v d, i = .rxerr v d) ∨ (∃ d, i = .rxb d) ∨ (∃ d, i = .rxidle d) ∨
    (∃ r ∈ hostTable, ∃ op x, i = r.make op x) := by
  cases e with
  | transport w =>
    simp only [decodeEvent, decodeTransport] at h
    obtain rfl := Except.ok.inj h
    split
    · exact .inl ⟨_, _, rfl⟩
    · split
      · exact .inr (.inl ⟨_, rfl⟩)
      · exact .inr (.inr (.inl ⟨_, rfl⟩))
  | host op x =>
    simp only [decodeEvent, decodeHost] at h
    split at h
    · next r hr =>
      obtain rfl := Except.ok.inj h
      exact .inr (.inr (.inr ⟨r, List.mem_of_find?_eq_some hr, _, _, rfl⟩))
    · cases h

/-! ## Presented events and runs -/

/-- A step with an event presented runs that event's instruction on the state as it was. -/
theorem step_present {e : Event} {i : Instr} (h : decodeEvent e = .ok i) (s : State) :
    step (present e s) = exec i s := by
  simp [step, nextEvent, present, h]

theorem step_rxbEvent (b : Byte) (s : State) : step (present (rxbEvent b) s) = execRxb b s :=
  step_present (e := rxbEvent b) (i := .rxb b) (by rw [rxbEvent, decodeEvent, decodeTransport_transportWord]; rfl) s

theorem step_rxidleEvent (s : State) : step (present rxidleEvent s) = execRxidle 0 s :=
  step_present (e := rxidleEvent) (i := .rxidle 0)
    (by rw [rxidleEvent, decodeEvent, decodeTransport_transportWord]; rfl) s

theorem step_clockEvent (s : State) : step (present clockEvent s) = execClock s :=
  rfl

/-- A run over two lists of events is the run over the first and then over the second. -/
theorem feed_append (a b : List Event) (s : State) :
    Safety.feed (a ++ b) s =
      (Safety.feed a s).bind (fun r => (Safety.feed b r.1).map (fun q => (q.1, r.2 ++ q.2))) := by
  induction a generalizing s with
  | nil => cases h : Safety.feed b s <;> simp [Safety.feed, h]
  | cons e a ih =>
    simp only [List.cons_append, Safety.feed]
    cases step (present e s) with
    | next t =>
      simp only [ih]
      cases ha : Safety.feed a t with
      | none => simp
      | some r => cases hb : Safety.feed b r.1 <;> simp [hb]
    | fault _ => rfl
    | refused _ => rfl

end Sys2Proof.Machine
end

