-- ==== Sys2Proof/Laws/PerInstr.lean ====
section
/-! SUPPORT. Facts about instructions as syntax, one lemma per constructor. -/

namespace Sys2Proof.Laws

/-- A well-formed instruction comes back from its encoding. -/
def RoundTrip.Statement (i : Instr) : Prop :=
  i.wf = true → decode (encode i) = .ok i

theorem RoundTrip.rxerr (valid : Bool) (data : Byte) : RoundTrip.Statement (.rxerr valid data) :=
  fun _ => congrArg Except.ok (decodeTransport_transportWord ..)

theorem RoundTrip.rxb (data : Byte) : RoundTrip.Statement (.rxb data) :=
  fun _ => congrArg Except.ok (decodeTransport_transportWord ..)

theorem RoundTrip.rxidle (data : Byte) : RoundTrip.Statement (.rxidle data) :=
  fun _ => congrArg Except.ok (decodeTransport_transportWord ..)

theorem RoundTrip.cmdGetVersion : RoundTrip.Statement .cmdGetVersion :=
  fun _ => rfl

theorem RoundTrip.cmdGetStatus : RoundTrip.Statement .cmdGetStatus :=
  fun _ => rfl

theorem RoundTrip.cmdSetConfig (c : Cfg) : RoundTrip.Statement (.cmdSetConfig c) :=
  fun _ => rfl

theorem RoundTrip.cmdSetFreq (f : BitVec 32) (p : Byte) : RoundTrip.Statement (.cmdSetFreq f p) :=
  fun _ => rfl

theorem RoundTrip.clock : RoundTrip.Statement .clock :=
  fun _ => rfl

theorem RoundTrip.berRead (id : BitVec 3) : RoundTrip.Statement (.berRead id) :=
  fun _ => rfl

theorem RoundTrip.reset : RoundTrip.Statement .reset :=
  fun _ => rfl

theorem RoundTrip.reserved0303 : RoundTrip.Statement .reserved0303 :=
  fun _ => rfl

theorem RoundTrip.reserved0505 : RoundTrip.Statement .reserved0505 :=
  fun _ => rfl

theorem RoundTrip.reserved0607 (low : BitVec 1) : RoundTrip.Statement (.reserved0607 low) := by
  intro _; revert low; decide +kernel

theorem RoundTrip.reserved080F (low : BitVec 3) : RoundTrip.Statement (.reserved080F low) := by
  intro _; revert low; decide +kernel

theorem RoundTrip.reserved101F (low : BitVec 4) : RoundTrip.Statement (.reserved101F low) := by
  intro _; revert low; decide +kernel

theorem RoundTrip.reserved203F (low : BitVec 5) : RoundTrip.Statement (.reserved203F low) := by
  intro _; revert low; decide +kernel

theorem RoundTrip.reserved407F (low : BitVec 6) : RoundTrip.Statement (.reserved407F low) := by
  intro _; revert low; decide +kernel

theorem RoundTrip.reserved80BF (low : BitVec 6) : RoundTrip.Statement (.reserved80BF low) := by
  intro _; revert low; decide +kernel

theorem RoundTrip.reservedC2C3 (low : BitVec 1) : RoundTrip.Statement (.reservedC2C3 low) := by
  intro _; revert low; decide +kernel

theorem RoundTrip.reservedC4C7 (low : BitVec 2) : RoundTrip.Statement (.reservedC4C7 low) := by
  intro _; revert low; decide +kernel

theorem RoundTrip.reservedC8CB (low : BitVec 2) : RoundTrip.Statement (.reservedC8CB low) := by
  intro _; revert low; decide +kernel

theorem RoundTrip.reservedCCCD (low : BitVec 1) : RoundTrip.Statement (.reservedCCCD low) := by
  intro _; revert low; decide +kernel

theorem RoundTrip.reservedCECE : RoundTrip.Statement .reservedCECE :=
  fun _ => rfl

theorem RoundTrip.reservedD0DF (low : BitVec 4) : RoundTrip.Statement (.reservedD0DF low) := by
  intro _; revert low; decide +kernel

theorem RoundTrip.reservedE0FF (low : BitVec 5) : RoundTrip.Statement (.reservedE0FF low) := by
  intro _; revert low; decide +kernel

theorem RoundTrip.txGetVersion : RoundTrip.Statement .txGetVersion :=
  fun _ => rfl

theorem RoundTrip.txGetStatus : RoundTrip.Statement .txGetStatus :=
  fun _ => rfl

theorem RoundTrip.txSetConfigV1 (c : Cfg) : RoundTrip.Statement (.txSetConfigV1 c) :=
  fun _ => rfl

theorem RoundTrip.txSetConfigV2 (c : Cfg) : RoundTrip.Statement (.txSetConfigV2 c) :=
  fun _ => rfl

theorem RoundTrip.txSetFreq (f : BitVec 32) (p : Byte) : RoundTrip.Statement (.txSetFreq f p) :=
  fun _ => rfl

theorem RoundTrip.rxVersion (f : List Byte) : RoundTrip.Statement (.rxVersion f) :=
  fun h => decodeReceived_of_frameInRow (r := ⟨_, _, .rxVersion⟩) (by simp [receivedTable]) h

theorem RoundTrip.rxStatus (f : List Byte) : RoundTrip.Statement (.rxStatus f) :=
  fun h => decodeReceived_of_frameInRow (r := ⟨_, _, .rxStatus⟩) (by simp [receivedTable]) h

theorem RoundTrip.rxOther0203 (f : List Byte) : RoundTrip.Statement (.rxOther0203 f) :=
  fun h => decodeReceived_of_frameInRow (r := ⟨_, _, .rxOther0203⟩) (by simp [receivedTable]) h

theorem RoundTrip.rxOther0407 (f : List Byte) : RoundTrip.Statement (.rxOther0407 f) :=
  fun h => decodeReceived_of_frameInRow (r := ⟨_, _, .rxOther0407⟩) (by simp [receivedTable]) h

theorem RoundTrip.rxOther080F (f : List Byte) : RoundTrip.Statement (.rxOther080F f) :=
  fun h => decodeReceived_of_frameInRow (r := ⟨_, _, .rxOther080F⟩) (by simp [receivedTable]) h

theorem RoundTrip.rxCodecData101F (f : List Byte) : RoundTrip.Statement (.rxCodecData101F f) :=
  fun h => decodeReceived_of_frameInRow (r := ⟨_, _, .rxCodecData101F⟩) (by simp [receivedTable]) h

theorem RoundTrip.rxCodecData203F (f : List Byte) : RoundTrip.Statement (.rxCodecData203F f) :=
  fun h => decodeReceived_of_frameInRow (r := ⟨_, _, .rxCodecData203F⟩) (by simp [receivedTable]) h

theorem RoundTrip.rxCodecData405F (f : List Byte) : RoundTrip.Statement (.rxCodecData405F f) :=
  fun h => decodeReceived_of_frameInRow (r := ⟨_, _, .rxCodecData405F⟩) (by simp [receivedTable]) h

theorem RoundTrip.rxOther606F (f : List Byte) : RoundTrip.Statement (.rxOther606F f) :=
  fun h => decodeReceived_of_frameInRow (r := ⟨_, _, .rxOther606F⟩) (by simp [receivedTable]) h

theorem RoundTrip.rxAck (f : List Byte) : RoundTrip.Statement (.rxAck f) :=
  fun h => decodeReceived_of_frameInRow (r := ⟨_, _, .rxAck⟩) (by simp [receivedTable]) h

theorem RoundTrip.rxOther7171 (f : List Byte) : RoundTrip.Statement (.rxOther7171 f) :=
  fun h => decodeReceived_of_frameInRow (r := ⟨_, _, .rxOther7171⟩) (by simp [receivedTable]) h

theorem RoundTrip.rxOther7273 (f : List Byte) : RoundTrip.Statement (.rxOther7273 f) :=
  fun h => decodeReceived_of_frameInRow (r := ⟨_, _, .rxOther7273⟩) (by simp [receivedTable]) h

theorem RoundTrip.rxOther7477 (f : List Byte) : RoundTrip.Statement (.rxOther7477 f) :=
  fun h => decodeReceived_of_frameInRow (r := ⟨_, _, .rxOther7477⟩) (by simp [receivedTable]) h

theorem RoundTrip.rxOther787B (f : List Byte) : RoundTrip.Statement (.rxOther787B f) :=
  fun h => decodeReceived_of_frameInRow (r := ⟨_, _, .rxOther787B⟩) (by simp [receivedTable]) h

theorem RoundTrip.rxOther7C7D (f : List Byte) : RoundTrip.Statement (.rxOther7C7D f) :=
  fun h => decodeReceived_of_frameInRow (r := ⟨_, _, .rxOther7C7D⟩) (by simp [receivedTable]) h

theorem RoundTrip.rxOther7E7E (f : List Byte) : RoundTrip.Statement (.rxOther7E7E f) :=
  fun h => decodeReceived_of_frameInRow (r := ⟨_, _, .rxOther7E7E⟩) (by simp [receivedTable]) h

theorem RoundTrip.rxNak (f : List Byte) : RoundTrip.Statement (.rxNak f) :=
  fun h => decodeReceived_of_frameInRow (r := ⟨_, _, .rxNak⟩) (by simp [receivedTable]) h

theorem RoundTrip.rxOther80BF (f : List Byte) : RoundTrip.Statement (.rxOther80BF f) :=
  fun h => decodeReceived_of_frameInRow (r := ⟨_, _, .rxOther80BF⟩) (by simp [receivedTable]) h

theorem RoundTrip.rxOtherC0DF (f : List Byte) : RoundTrip.Statement (.rxOtherC0DF f) :=
  fun h => decodeReceived_of_frameInRow (r := ⟨_, _, .rxOtherC0DF⟩) (by simp [receivedTable]) h

theorem RoundTrip.rxOtherE0EF (f : List Byte) : RoundTrip.Statement (.rxOtherE0EF f) :=
  fun h => decodeReceived_of_frameInRow (r := ⟨_, _, .rxOtherE0EF⟩) (by simp [receivedTable]) h

theorem RoundTrip.rxOtherF0F0 (f : List Byte) : RoundTrip.Statement (.rxOtherF0F0 f) :=
  fun h => decodeReceived_of_frameInRow (r := ⟨_, _, .rxOtherF0F0⟩) (by simp [receivedTable]) h

theorem RoundTrip.rxDebugF1 (f : List Byte) : RoundTrip.Statement (.rxDebugF1 f) :=
  fun h => decodeReceived_of_frameInRow (r := ⟨_, _, .rxDebugF1⟩) (by simp [receivedTable]) h

theorem RoundTrip.rxDebugF2 (f : List Byte) : RoundTrip.Statement (.rxDebugF2 f) :=
  fun h => decodeReceived_of_frameInRow (r := ⟨_, _, .rxDebugF2⟩) (by simp [receivedTable]) h

theorem RoundTrip.rxDebugF3 (f : List Byte) : RoundTrip.Statement (.rxDebugF3 f) :=
  fun h => decodeReceived_of_frameInRow (r := ⟨_, _, .rxDebugF3⟩) (by simp [receivedTable]) h

theorem RoundTrip.rxDebugF4 (f : List Byte) : RoundTrip.Statement (.rxDebugF4 f) :=
  fun h => decodeReceived_of_frameInRow (r := ⟨_, _, .rxDebugF4⟩) (by simp [receivedTable]) h

theorem RoundTrip.rxDebugF5 (f : List Byte) : RoundTrip.Statement (.rxDebugF5 f) :=
  fun h => decodeReceived_of_frameInRow (r := ⟨_, _, .rxDebugF5⟩) (by simp [receivedTable]) h

theorem RoundTrip.rxOtherF6F7 (f : List Byte) : RoundTrip.Statement (.rxOtherF6F7 f) :=
  fun h => decodeReceived_of_frameInRow (r := ⟨_, _, .rxOtherF6F7⟩) (by simp [receivedTable]) h

theorem RoundTrip.rxOtherF8FF (f : List Byte) : RoundTrip.Statement (.rxOtherF8FF f) :=
  fun h => decodeReceived_of_frameInRow (r := ⟨_, _, .rxOtherF8FF⟩) (by simp [receivedTable]) h

end Sys2Proof.Laws
end

