-- ==== Sys2Proof/Tests/Slice0.lean ====
section
/-! SUPPORT. The model's own tests: words of every row decoded, ill-formed terms refused, the spec's vectors on one step
each, and a state and operands that meet the hypotheses of each statement that has hypotheses. -/

namespace Sys2Proof.Tests

open Sys2Proof Sys2Proof.Machine Sys2Proof.Safety

/-! ## Helpers -/

/-- The reset state with a configuration that a test can compute with. -/
def base : State := { State.reset with cfgCommitted := {}, cfgPending := {} }

/-- The framer in the middle of a frame, the bytes received so far in the buffer. -/
def mid (st : RxState) (len : Nat) (ext : Bool) (bytes : List Byte) : State :=
  { base with
    rxState := st, rxOffset := bytes.length, rxLength := len, rxExt := ext, buf := Memory.writeRange [] 0 bytes }

/-- A SET_CONFIG is awaited, a version negotiated. -/
def waiting : State :=
  { base with
    protoVersion := some .v1, hwType := some .generic, cfgPending := { mode := 98 }, ackWait := .waitConfig,
    ackTries := 2 }

/-- What `p` says of the next state; false where there is none. -/
def nextHas (r : Result) (p : State → Bool) : Bool :=
  match r with
  | .next t => p t
  | _ => false

/-- The framer registers of 95_test_vectors.md part 2.1. -/
def framer (s : State) : RxState × Nat × Nat × Bool :=
  (s.rxState, s.rxOffset, s.rxLength, s.rxExt)

/-- `CFG_A` of 95_test_vectors.md part 2.3. -/
def cfgA : Cfg :=
  { enDmr := true, invRx := true, duplex := true, mode := 98, dcTx := -1, dcRx := 5, levelRx := 50, levelTx := 30 }

/-- `CFG_B` of 95_test_vectors.md part 2.3. -/
def cfgB : Cfg :=
  { enDstar := true, enDmr := true, enYsf := true, enP25 := true, enNxdn := true, invRx := true, invTx := true,
    invPtt := true, debug := true, mode := 255, dcTx := 127, dcRx := -128, levelRx := 100 }

/-- The frame of vector K9. -/
def frameK9 : List Byte := [0xE0, 0x0B, 0x00, 0x01, 0x4D, 0x4D, 0x44, 0x56, 0x4D, 0x20, 0x31]

/-! ## Words of every row (30_encoding.md R100 to R105, R113), the operand at a value of its own -/

theorem test_decode_transport :
    [0x200#10, 0x3FF#10, 0x2A5#10, 0x100#10, 0x1E0#10, 0x1FF#10, 0x000#10, 0x0FF#10].map decodeTransport =
      [.rxerr false 0x00, .rxerr true 0xFF, .rxerr false 0xA5, .rxb 0x00, .rxb 0xE0, .rxb 0xFF, .rxidle 0x00,
       .rxidle 0xFF] := by
  decide

theorem test_decode_host :
    decode (.event (.host 0x00 {})) = .ok .cmdGetVersion ∧
    decode (.event (.host 0x01 {})) = .ok .cmdGetStatus ∧
    decode (.event (.host 0x02 { cfg := cfgA })) = .ok (.cmdSetConfig cfgA) ∧
    decode (.event (.host 0x04 { freq := 433000000, power := 0xFF })) = .ok (.cmdSetFreq 433000000 0xFF) ∧
    decode (.event (.host 0xC0 {})) = .ok .clock ∧
    decode (.event (.host 0xC1 { id := 5 })) = .ok (.berRead 5) ∧
    decode (.event (.host 0xCF {})) = .ok .reset :=
  ⟨rfl, rfl, rfl, rfl, rfl, rfl, rfl⟩

/-- Each reserved row at the highest opcode of its range. -/
theorem test_decode_reserved :
    decode (.event (.host 0x03 {})) = .ok (.reserved0303) ∧
    decode (.event (.host 0x05 {})) = .ok (.reserved0505) ∧
    decode (.event (.host 0x07 {})) = .ok (.reserved0607 1) ∧
    decode (.event (.host 0x0F {})) = .ok (.reserved080F 7) ∧
    decode (.event (.host 0x1F {})) = .ok (.reserved101F 15) ∧
    decode (.event (.host 0x3F {})) = .ok (.reserved203F 31) ∧
    decode (.event (.host 0x7F {})) = .ok (.reserved407F 63) ∧
    decode (.event (.host 0xBF {})) = .ok (.reserved80BF 63) ∧
    decode (.event (.host 0xC3 {})) = .ok (.reservedC2C3 1) ∧
    decode (.event (.host 0xC7 {})) = .ok (.reservedC4C7 3) ∧
    decode (.event (.host 0xCB {})) = .ok (.reservedC8CB 3) ∧
    decode (.event (.host 0xCD {})) = .ok (.reservedCCCD 1) ∧
    decode (.event (.host 0xCE {})) = .ok (.reservedCECE) ∧
    decode (.event (.host 0xDF {})) = .ok (.reservedD0DF 15) ∧
    decode (.event (.host 0xFF {})) = .ok (.reservedE0FF 31) :=
  ⟨rfl, rfl, rfl, rfl, rfl, rfl, rfl, rfl, rfl, rfl, rfl, rfl, rfl, rfl, rfl⟩

theorem test_decode_sent :
    decode (.sent 0xE00300 {}) = .ok .txGetVersion ∧
    decode (.sent 0xE00301 {}) = .ok .txGetStatus ∧
    decode (.sent 0xE01B02 { cfg := cfgA }) = .ok (.txSetConfigV1 cfgA) ∧
    decode (.sent 0xE02802 { cfg := cfgB }) = .ok (.txSetConfigV2 cfgB) ∧
    decode (.sent 0xE00D04 { freq := 1, power := 2 }) = .ok (.txSetFreq 1 2) ∧
    decode (.sent 0xE00D05 {}) = .error .noRow :=
  ⟨rfl, rfl, rfl, rfl, rfl, rfl⟩

/-- Each received row by the lowest tag of its range, in the short form. -/
theorem test_decode_received_short :
    decode (.received [0xE0, 0x03, 0x00]) = .ok (.rxVersion [0xE0, 0x03, 0x00]) ∧
    decode (.received [0xE0, 0x03, 0x01]) = .ok (.rxStatus [0xE0, 0x03, 0x01]) ∧
    decode (.received [0xE0, 0x03, 0x02]) = .ok (.rxOther0203 [0xE0, 0x03, 0x02]) ∧
    decode (.received [0xE0, 0x03, 0x04]) = .ok (.rxOther0407 [0xE0, 0x03, 0x04]) ∧
    decode (.received [0xE0, 0x03, 0x08]) = .ok (.rxOther080F [0xE0, 0x03, 0x08]) ∧
    decode (.received [0xE0, 0x03, 0x10]) = .ok (.rxCodecData101F [0xE0, 0x03, 0x10]) ∧
    decode (.received [0xE0, 0x03, 0x20]) = .ok (.rxCodecData203F [0xE0, 0x03, 0x20]) ∧
    decode (.received [0xE0, 0x03, 0x40]) = .ok (.rxCodecData405F [0xE0, 0x03, 0x40]) ∧
    decode (.received [0xE0, 0x03, 0x60]) = .ok (.rxOther606F [0xE0, 0x03, 0x60]) ∧
    decode (.received [0xE0, 0x03, 0x70]) = .ok (.rxAck [0xE0, 0x03, 0x70]) ∧
    decode (.received [0xE0, 0x03, 0x71]) = .ok (.rxOther7171 [0xE0, 0x03, 0x71]) ∧
    decode (.received [0xE0, 0x03, 0x72]) = .ok (.rxOther7273 [0xE0, 0x03, 0x72]) ∧
    decode (.received [0xE0, 0x03, 0x74]) = .ok (.rxOther7477 [0xE0, 0x03, 0x74]) ∧
    decode (.received [0xE0, 0x03, 0x78]) = .ok (.rxOther787B [0xE0, 0x03, 0x78]) ∧
    decode (.received [0xE0, 0x03, 0x7C]) = .ok (.rxOther7C7D [0xE0, 0x03, 0x7C]) ∧
    decode (.received [0xE0, 0x03, 0x7E]) = .ok (.rxOther7E7E [0xE0, 0x03, 0x7E]) ∧
    decode (.received [0xE0, 0x03, 0x7F]) = .ok (.rxNak [0xE0, 0x03, 0x7F]) ∧
    decode (.received [0xE0, 0x03, 0x80]) = .ok (.rxOther80BF [0xE0, 0x03, 0x80]) ∧
    decode (.received [0xE0, 0x03, 0xC0]) = .ok (.rxOtherC0DF [0xE0, 0x03, 0xC0]) ∧
    decode (.received [0xE0, 0x03, 0xE0]) = .ok (.rxOtherE0EF [0xE0, 0x03, 0xE0]) ∧
    decode (.received [0xE0, 0x03, 0xF0]) = .ok (.rxOtherF0F0 [0xE0, 0x03, 0xF0]) ∧
    decode (.received [0xE0, 0x03, 0xF1]) = .ok (.rxDebugF1 [0xE0, 0x03, 0xF1]) ∧
    decode (.received [0xE0, 0x03, 0xF2]) = .ok (.rxDebugF2 [0xE0, 0x03, 0xF2]) ∧
    decode (.received [0xE0, 0x03, 0xF3]) = .ok (.rxDebugF3 [0xE0, 0x03, 0xF3]) ∧
    decode (.received [0xE0, 0x03, 0xF4]) = .ok (.rxDebugF4 [0xE0, 0x03, 0xF4]) ∧
    decode (.received [0xE0, 0x03, 0xF5]) = .ok (.rxDebugF5 [0xE0, 0x03, 0xF5]) ∧
    decode (.received [0xE0, 0x03, 0xF6]) = .ok (.rxOtherF6F7 [0xE0, 0x03, 0xF6]) ∧
    decode (.received [0xE0, 0x03, 0xF8]) = .ok (.rxOtherF8FF [0xE0, 0x03, 0xF8]) :=
  ⟨rfl, rfl, rfl, rfl, rfl, rfl, rfl, rfl, rfl, rfl, rfl, rfl, rfl, rfl, rfl, rfl, rfl, rfl, rfl, rfl, rfl, rfl, rfl, rfl, rfl, rfl, rfl, rfl⟩

/-- Each received row by the highest tag of its range, in the extended form: the tag is byte 4. -/
theorem test_decode_received_extended :
    decode (.received [0xE0, 0x00, 0x00, 0x05, 0x00]) = .ok (.rxVersion [0xE0, 0x00, 0x00, 0x05, 0x00]) ∧
    decode (.received [0xE0, 0x00, 0x00, 0x05, 0x01]) = .ok (.rxStatus [0xE0, 0x00, 0x00, 0x05, 0x01]) ∧
    decode (.received [0xE0, 0x00, 0x00, 0x05, 0x03]) = .ok (.rxOther0203 [0xE0, 0x00, 0x00, 0x05, 0x03]) ∧
    decode (.received [0xE0, 0x00, 0x00, 0x05, 0x07]) = .ok (.rxOther0407 [0xE0, 0x00, 0x00, 0x05, 0x07]) ∧
    decode (.received [0xE0, 0x00, 0x00, 0x05, 0x0F]) = .ok (.rxOther080F [0xE0, 0x00, 0x00, 0x05, 0x0F]) ∧
    decode (.received [0xE0, 0x00, 0x00, 0x05, 0x1F]) = .ok (.rxCodecData101F [0xE0, 0x00, 0x00, 0x05, 0x1F]) ∧
    decode (.received [0xE0, 0x00, 0x00, 0x05, 0x3F]) = .ok (.rxCodecData203F [0xE0, 0x00, 0x00, 0x05, 0x3F]) ∧
    decode (.received [0xE0, 0x00, 0x00, 0x05, 0x5F]) = .ok (.rxCodecData405F [0xE0, 0x00, 0x00, 0x05, 0x5F]) ∧
    decode (.received [0xE0, 0x00, 0x00, 0x05, 0x6F]) = .ok (.rxOther606F [0xE0, 0x00, 0x00, 0x05, 0x6F]) ∧
    decode (.received [0xE0, 0x00, 0x00, 0x05, 0x70]) = .ok (.rxAck [0xE0, 0x00, 0x00, 0x05, 0x70]) ∧
    decode (.received [0xE0, 0x00, 0x00, 0x05, 0x71]) = .ok (.rxOther7171 [0xE0, 0x00, 0x00, 0x05, 0x71]) ∧
    decode (.received [0xE0, 0x00, 0x00, 0x05, 0x73]) = .ok (.rxOther7273 [0xE0, 0x00, 0x00, 0x05, 0x73]) ∧
    decode (.received [0xE0, 0x00, 0x00, 0x05, 0x77]) = .ok (.rxOther7477 [0xE0, 0x00, 0x00, 0x05, 0x77]) ∧
    decode (.received [0xE0, 0x00, 0x00, 0x05, 0x7B]) = .ok (.rxOther787B [0xE0, 0x00, 0x00, 0x05, 0x7B]) ∧
    decode (.received [0xE0, 0x00, 0x00, 0x05, 0x7D]) = .ok (.rxOther7C7D [0xE0, 0x00, 0x00, 0x05, 0x7D]) ∧
    decode (.received [0xE0, 0x00, 0x00, 0x05, 0x7E]) = .ok (.rxOther7E7E [0xE0, 0x00, 0x00, 0x05, 0x7E]) ∧
    decode (.received [0xE0, 0x00, 0x00, 0x05, 0x7F]) = .ok (.rxNak [0xE0, 0x00, 0x00, 0x05, 0x7F]) ∧
    decode (.received [0xE0, 0x00, 0x00, 0x05, 0xBF]) = .ok (.rxOther80BF [0xE0, 0x00, 0x00, 0x05, 0xBF]) ∧
    decode (.received [0xE0, 0x00, 0x00, 0x05, 0xDF]) = .ok (.rxOtherC0DF [0xE0, 0x00, 0x00, 0x05, 0xDF]) ∧
    decode (.received [0xE0, 0x00, 0x00, 0x05, 0xEF]) = .ok (.rxOtherE0EF [0xE0, 0x00, 0x00, 0x05, 0xEF]) ∧
    decode (.received [0xE0, 0x00, 0x00, 0x05, 0xF0]) = .ok (.rxOtherF0F0 [0xE0, 0x00, 0x00, 0x05, 0xF0]) ∧
    decode (.received [0xE0, 0x00, 0x00, 0x05, 0xF1]) = .ok (.rxDebugF1 [0xE0, 0x00, 0x00, 0x05, 0xF1]) ∧
    decode (.received [0xE0, 0x00, 0x00, 0x05, 0xF2]) = .ok (.rxDebugF2 [0xE0, 0x00, 0x00, 0x05, 0xF2]) ∧
    decode (.received [0xE0, 0x00, 0x00, 0x05, 0xF3]) = .ok (.rxDebugF3 [0xE0, 0x00, 0x00, 0x05, 0xF3]) ∧
    decode (.received [0xE0, 0x00, 0x00, 0x05, 0xF4]) = .ok (.rxDebugF4 [0xE0, 0x00, 0x00, 0x05, 0xF4]) ∧
    decode (.received [0xE0, 0x00, 0x00, 0x05, 0xF5]) = .ok (.rxDebugF5 [0xE0, 0x00, 0x00, 0x05, 0xF5]) ∧
    decode (.received [0xE0, 0x00, 0x00, 0x05, 0xF7]) = .ok (.rxOtherF6F7 [0xE0, 0x00, 0x00, 0x05, 0xF7]) ∧
    decode (.received [0xE0, 0x00, 0x00, 0x05, 0xFF]) = .ok (.rxOtherF8FF [0xE0, 0x00, 0x00, 0x05, 0xFF]) :=
  ⟨rfl, rfl, rfl, rfl, rfl, rfl, rfl, rfl, rfl, rfl, rfl, rfl, rfl, rfl, rfl, rfl, rfl, rfl, rfl, rfl, rfl, rfl, rfl, rfl, rfl, rfl, rfl, rfl⟩

theorem test_decode_refuses_bad_frames :
    decode (.received [0xE1, 0x03, 0x70]) = .error .badMarker ∧
    decode (.received [0xE0, 0x03]) = .error .truncated ∧
    decode (.received [0xE0, 0x00, 0x00, 0x05]) = .error .truncated ∧
    decode (.received []) = .error .badMarker :=
  ⟨rfl, rfl, rfl, rfl⟩

/-- Numbers of the table: 8-bit opcode, 10-bit word in 16 bits, 24-bit header word. -/
theorem test_table_words :
    decodeTableWord 8 0xC0 = some .clock ∧
    decodeTableWord 16 0x200 = some (.rxerr false 0) ∧
    decodeTableWord 24 0xE01B02 = some (.txSetConfigV1 {}) ∧
    decodeTableWord 24 0xE00000 = some (.rxVersion [0xE0, 0x03, 0x00]) ∧
    decodeTableWord 24 0xE00570 = some (.rxAck [0xE0, 0x05, 0x70, 0x00, 0x00]) ∧
    decodeTableWord 24 0x000570 = none :=
  ⟨rfl, rfl, rfl, rfl, rfl, rfl⟩

/-! ## Ill-formed terms -/

/-- A tag that the row does not match is refused by every received row: tag 0x00, and tag 0x01 by the row of 0x00. -/
theorem test_wf_refuses_foreign_tag :
    ([.rxVersion [0xE0, 0x03, 0x01], .rxStatus [0xE0, 0x03, 0x00],
      .rxOther0203 [0xE0, 0x03, 0x00], .rxOther0407 [0xE0, 0x03, 0x00],
      .rxOther080F [0xE0, 0x03, 0x00], .rxCodecData101F [0xE0, 0x03, 0x00],
      .rxCodecData203F [0xE0, 0x03, 0x00], .rxCodecData405F [0xE0, 0x03, 0x00],
      .rxOther606F [0xE0, 0x03, 0x00], .rxAck [0xE0, 0x03, 0x00],
      .rxOther7171 [0xE0, 0x03, 0x00], .rxOther7273 [0xE0, 0x03, 0x00],
      .rxOther7477 [0xE0, 0x03, 0x00], .rxOther787B [0xE0, 0x03, 0x00],
      .rxOther7C7D [0xE0, 0x03, 0x00], .rxOther7E7E [0xE0, 0x03, 0x00],
      .rxNak [0xE0, 0x03, 0x00], .rxOther80BF [0xE0, 0x03, 0x00],
      .rxOtherC0DF [0xE0, 0x03, 0x00], .rxOtherE0EF [0xE0, 0x03, 0x00],
      .rxOtherF0F0 [0xE0, 0x03, 0x00], .rxDebugF1 [0xE0, 0x03, 0x00],
      .rxDebugF2 [0xE0, 0x03, 0x00], .rxDebugF3 [0xE0, 0x03, 0x00],
      .rxDebugF4 [0xE0, 0x03, 0x00], .rxDebugF5 [0xE0, 0x03, 0x00],
      .rxOtherF6F7 [0xE0, 0x03, 0x00], .rxOtherF8FF [0xE0, 0x03, 0x00]] : List Instr).all (fun i => !i.wf) = true := by
  decide

/-- The frame of its own tag is accepted by every received row. -/
theorem test_wf_accepts_own_tag :
    ([.rxVersion [0xE0, 0x03, 0x00], .rxStatus [0xE0, 0x03, 0x01],
      .rxOther0203 [0xE0, 0x03, 0x03], .rxOther0407 [0xE0, 0x03, 0x07],
      .rxOther080F [0xE0, 0x03, 0x0F], .rxCodecData101F [0xE0, 0x03, 0x1F],
      .rxCodecData203F [0xE0, 0x03, 0x3F], .rxCodecData405F [0xE0, 0x03, 0x5F],
      .rxOther606F [0xE0, 0x03, 0x6F], .rxAck [0xE0, 0x03, 0x70],
      .rxOther7171 [0xE0, 0x03, 0x71], .rxOther7273 [0xE0, 0x03, 0x73],
      .rxOther7477 [0xE0, 0x03, 0x77], .rxOther787B [0xE0, 0x03, 0x7B],
      .rxOther7C7D [0xE0, 0x03, 0x7D], .rxOther7E7E [0xE0, 0x03, 0x7E],
      .rxNak [0xE0, 0x03, 0x7F], .rxOther80BF [0xE0, 0x03, 0xBF],
      .rxOtherC0DF [0xE0, 0x03, 0xDF], .rxOtherE0EF [0xE0, 0x03, 0xEF],
      .rxOtherF0F0 [0xE0, 0x03, 0xF0], .rxDebugF1 [0xE0, 0x03, 0xF1],
      .rxDebugF2 [0xE0, 0x03, 0xF2], .rxDebugF3 [0xE0, 0x03, 0xF3],
      .rxDebugF4 [0xE0, 0x03, 0xF4], .rxDebugF5 [0xE0, 0x03, 0xF5],
      .rxOtherF6F7 [0xE0, 0x03, 0xF7], .rxOtherF8FF [0xE0, 0x03, 0xFF]] : List Instr).all Instr.wf = true := by
  decide

/-- Wrong marker, wrong length byte, a length byte below 3 or from 250 up, no tag, an extended length below 5. -/
theorem test_wf_refuses_bad_frames :
    ([.rxAck [0xE1, 0x03, 0x70], .rxAck [0xE0, 0x04, 0x70], .rxAck [0xE0, 0x02, 0x70], .rxAck [0xE0, 0x02],
      .rxAck [0xE0], .rxAck [], .rxAck [0xE0, 0x00, 0x00, 0x04, 0x70],
      .rxAck ([0xE0, 0xFA, 0x70] ++ List.replicate 247 0)] : List Instr).all (fun i => !i.wf) = true := by
  decide +kernel

/-- The longest short frame and the shortest extended frame are accepted. -/
theorem test_wf_accepts_boundary_frames :
    ([.rxAck ([0xE0, 0xF9, 0x70] ++ List.replicate 246 0), .rxAck [0xE0, 0x00, 0x00, 0x05, 0x70]] : List Instr).all
      Instr.wf = true := by
  decide +kernel

/-- A sent configuration is in range: each field just outside is refused, `CFG_B` at the bounds is accepted. -/
theorem test_wf_sent_configuration :
    (Instr.txSetConfigV1 cfgB).wf = true ∧ (Instr.txSetConfigV2 cfgB).wf = true ∧
    ([{ cfgA with dcTx := 128 }, { cfgA with dcTx := -129 }, { cfgA with dcRx := 128 }, { cfgA with dcRx := -129 },
      { cfgA with levelRx := 101 }, { cfgA with levelRx := -1 }, { cfgA with levelTx := 101 },
      { cfgA with levelTx := -1 }, { cfgA with mode := 256 }, { cfgA with mode := -1 }] : List Cfg).all
      (fun c => !(Instr.txSetConfigV1 c).wf && !(Instr.txSetConfigV2 c).wf) = true := by
  decide

/-! ## The parameters (00_scope.md R6) -/

theorem test_defaults_are_admissible :
    Config.minFrameLen ≤ Config.maxShortLen ∧ Config.maxShortLen ≤ 256 ∧ Config.extLenEscape < Config.minFrameLen ∧
    Config.minExtLen = 5 ∧ Config.minExtLen ≤ Config.maxExtLen ∧ Config.maxExtLen ≤ 65535 ∧
    max (Config.maxShortLen - 1) Config.maxExtLen ≤ Config.bufBytes ∧
    ([Config.cfgLenV1, Config.cfgLenV2, Config.freqLen].all validShortLength) = true ∧
    [Config.tagGetVersion, Config.tagGetStatus, Config.tagSetConfig, Config.tagSetFreq, Config.tagAck,
      Config.tagNak].Nodup ∧
    1 ≤ Config.ackMaxTries ∧ 1 ≤ Config.cntW ∧ 1 ≤ Config.levelScale ∧
    (Config.hotspotPrefixes.all (fun a => Config.genericPrefixes.all (fun b =>
      !a.isPrefixOf b && !b.isPrefixOf a))) = true := by
  decide

/-- The control tags have their own classes, so they lie in neither tag range (41_codec.md R182). -/
theorem test_control_tags_outside_ranges :
    [0x00, 0x01, 0x02, 0x04, 0x70, 0x7F].map classOfTag = [.version, .status, .other, .other, .ack, .nak] := by
  decide

theorem test_illustrative_layouts_wf : illustrativeV1.wf 27 ∧ illustrativeV2.wf 40 := by
  decide

/-! ## Functions: the vectors of 95_test_vectors.md -/

/-- K1. -/
theorem test_enc_level :
    [0, 1, 2, 10, 25, 30, 49, 50, 51, 70, 90, 99, 100].map encLevel =
      [0x00, 0x03, 0x05, 0x1A, 0x40, 0x4D, 0x7D, 0x80, 0x82, 0xB3, 0xE6, 0xFC, 0xFF] := by
  decide

/-- K2. -/
theorem test_enc_dc :
    [-128, -1, 0, 1, 5, 127].map encDc = [0x00, 0x7F, 0x80, 0x81, 0x85, 0xFF] ∧ decDc 0x7F = -1 := by
  decide

/-- K5. -/
theorem test_encode_cfg_v1 :
    encodeCfg illustrativeV1 cfgA =
      [0xE0, 0x1B, 0x02, 0x01, 0x02, 0x00, 0x62, 0x80, 0x00, 0x00, 0x00, 0x00, 0x4D, 0x4D, 0x4D, 0x4D, 0x7F, 0x85,
       0x4D, 0x00, 0x00, 0x00, 0x00, 0x00, 0x00, 0x00, 0x00] := by
  decide

/-- K7, version 2. -/
theorem test_encode_cfg_v2 :
    encodeCfg illustrativeV2 cfgB =
      [0xE0, 0x28, 0x02, 0x97, 0x1F, 0x00, 0x00, 0xFF, 0xFF, 0x00, 0xFF, 0x00, 0x00, 0x00, 0x00, 0x00, 0x00]
        ++ List.replicate 23 0x00 := by
  decide

/-- K8 with the round trip of R180: the level bytes and the offsets come back. -/
theorem test_decode_cfg :
    (decodeCfg illustrativeV1 (encodeCfg illustrativeV1 cfgA)).any (fun d =>
      d.mode == 0x62 && d.dc .tx == -1 && d.dc .rx == 5 && d.levelByte .rx == 0x80 && d.levelByte .tx == 0x4D &&
      d.flag .duplex && d.flag (.en .dmr) && !d.flag .debug) = true ∧
    (decodeCfg illustrativeV1 (encodeCfg illustrativeV2 cfgA)).isNone = true := by
  decide

/-- B1, B3, B5, B6. -/
theorem test_count_errs :
    countErrs 0xFF 0x0F = 4 ∧ countErrs 0x00 0xFF = 8 ∧ countErrs 0x80 0x00 = 1 ∧ countErrs 0x01 0x00 = 1 ∧
    countErrsBytes [0xFF, 0x00] [0x0F, 0x01] = 5 := by
  decide

/-- B7. -/
theorem test_packed_bits :
    packedBits [0xB4] (List.range 8) = [true, false, true, true, false, true, false, false] := by
  decide

/-- B8 to B12. -/
theorem test_toy74 :
    [[0xB4], [0xB0], [0xBE], [0x00], [0xFF], [0xB0, 0x00]].map (checkFrame toy74 0) =
      [some (0, 7), some (1, 7), some (2, 7), some (0, 7), some (0, 7), none] := by
  decide

/-- A fixed pattern repeated to the length of the check bits (42_fec_ber.md R226): pattern 10 against 1011. -/
theorem test_fixed_pattern :
    blockErrors [0xB0] (fixedPatternBlock [true, false] [0, 1, 2, 3]) = 1 := by
  decide

/-- `TOY74` selected for tag 0x1A scores the payload of B9; a frame of another tag is offered to no checker (B16, R233). -/
theorem test_score_frame :
    scoreFrame (fun _ t => if t = 0x1A then some .dmr else none) (fun _ => 0) (fun _ => toy74) 0 [0xE0, 0x04, 0x1A, 0xB0]
      = some (.dmr, 1, 7) ∧
    scoreFrame (fun _ t => if t = 0x1A then some .dmr else none) (fun _ => 0) (fun _ => toy74) 0 [0xE0, 0x04, 0x1B, 0xB0]
      = none := by
  decide

/-- B13: two scored frames add up, the timer is reloaded, no other bank moves. -/
theorem test_accumulate :
    bankOf (accumulate .dmr 0 141 (accumulate .dmr 3 141 base)).ber .dmr =
      { bits := 282, errors := 3, frames := 2, timer := Config.berTimeoutTicks, running := true } ∧
    bankOf (accumulate .dmr 3 141 base).ber .dmr1031 = {} := by
  refine ⟨?_, rfl⟩
  rfl

/-- R234, R239: an addition that just fits is made; one more is an overflow that leaves the bank alone. -/
theorem test_overflow :
    wouldOverflow { bits := 2 ^ 32 - 8 } 0 7 = false ∧ wouldOverflow { bits := 2 ^ 32 - 7 } 0 7 = true ∧
    (overflow .dmr base).faultOvf = true ∧ (overflow .dmr base).out.cause = .counterOverflow ∧
    (overflow .dmr base).out.info = 1 ∧ (overflow .dmr base).ber = base.ber := by
  refine ⟨by decide, by decide, rfl, rfl, rfl, rfl⟩

/-- B13: 300/282 percent is 50/47 percent. -/
theorem test_ber_rate : berRate { bits := 282, errors := 3 } = .percent (50 / 47) ∧ berRate {} = .noData := by
  constructor
  · simp only [berRate]; norm_num [Rat.mkRat_eq_div]
  · rfl

/-! ## One step of each event -/

/-- F1, first byte: the marker opens a frame; F12: any other byte changes nothing. -/
theorem test_rxb_start :
    nextHas (exec (.rxb 0xE0) base) (fun t => framer t == (.awaitLength, 1, 0, false) && t.buf == [(0, 0xE0)]) = true ∧
    nextHas (exec (.rxb 0x41) base) (fun t => t == { base with out := {} }) = true := by
  refine ⟨by decide, rfl⟩

/-- F3 to F6 and the bounds of R133 to R136: 249 is a length, 250 and 2 are errors with the byte as info, 0 escapes. -/
theorem test_rxb_length :
    nextHas (exec (.rxb 0xF9) (mid .awaitLength 0 false [0xE0])) (fun t => framer t == (.awaitType, 2, 249, false)) = true ∧
    nextHas (exec (.rxb 0xFA) (mid .awaitLength 0 false [0xE0])) (fun t =>
      framer t == (.awaitStart, 0, 0, false) && t.out.cause == .invalidLength && t.out.info == 250) = true ∧
    nextHas (exec (.rxb 0x02) (mid .awaitLength 0 false [0xE0])) (fun t =>
      t.out.rxStatus == .protocolError && t.out.info == 2) = true ∧
    nextHas (exec (.rxb 0x00) (mid .awaitLength 0 false [0xE0])) (fun t => framer t == (.awaitExtLen, 2, 0, true)) = true := by
  decide

/-- F7 to F9: the high byte, then the low byte; 5 is a length, 4 is an error. -/
theorem test_rxb_extended_length :
    nextHas (exec (.rxb 0x01) (mid .awaitExtLen 0 true [0xE0, 0x00])) (fun t => framer t == (.awaitExtLen, 3, 0, true)) = true ∧
    nextHas (exec (.rxb 0x2C) (mid .awaitExtLen 0 true [0xE0, 0x00, 0x01])) (fun t =>
      framer t == (.awaitType, 4, 300, true)) = true ∧
    nextHas (exec (.rxb 0x04) (mid .awaitExtLen 0 true [0xE0, 0x00, 0x00])) (fun t =>
      framer t == (.awaitStart, 0, 0, false) && t.out.info == 4) = true := by
  decide

/-- F1 and F15, last byte: the frame with its class; marker bytes in a payload are data. -/
theorem test_rxb_completes :
    nextHas (exec (.rxb 0x70) (mid .awaitType 3 false [0xE0, 0x03])) (fun t =>
      framer t == (.awaitStart, 0, 0, false) && t.out.frame == some [0xE0, 0x03, 0x70] && t.out.cls == some .ack) = true ∧
    nextHas (exec (.rxb 0xE0) (mid .awaitPayload 5 false [0xE0, 0x05, 0x02, 0xE0])) (fun t =>
      t.out.frame == some [0xE0, 0x05, 0x02, 0xE0, 0xE0] && t.out.cls == some .other) = true := by
  decide

/-- F13 and F19: the position is kept; an awaited command loses one attempt. -/
theorem test_rxidle :
    nextHas (exec (.rxidle 0x55) (mid .awaitExtLen 0 true [0xE0, 0x00, 0x00])) (fun t =>
      framer t == (.awaitExtLen, 3, 0, true) && t.out.rxStatus == .wouldBlock && t.out.link == .none) = true ∧
    nextHas (exec (.rxidle 0x00) { waiting with ackTries := 29 }) (fun t =>
      t.out.link == .unresponsive && t.ackWait == .idle && t.ackTries == 0 && t.cfgPending == {}) = true := by
  decide

/-- F16: the frame is aborted; an awaited command loses one attempt. -/
theorem test_rxerr :
    nextHas (exec (.rxerr true 0x55) { waiting with rxState := .awaitPayload, rxOffset := 3, rxLength := 5 }) (fun t =>
      framer t == (.awaitStart, 0, 0, false) && t.out.rxStatus == .transportError &&
      t.out.cause == .transportReadError && t.ackTries == 3) = true := by
  decide

/-- P1 steps 1 and 15, also while a command is awaited. -/
theorem test_requests :
    nextHas (exec .cmdGetVersion waiting) (fun t => t.out.tx == some [0xE0, 0x03, 0x00] && t.ackTries == 2) = true ∧
    nextHas (exec .cmdGetStatus waiting) (fun t => t.out.tx == some [0xE0, 0x03, 0x01] && t.ackWait == .waitConfig) = true := by
  decide

/-- K29 and P2 steps 1, 4: the three refusals in their order, each without a `tx`. -/
theorem test_set_config_refused :
    nextHas (exec (.cmdSetConfig { levelRx := 101 }) waiting) (fun t => t.out.cause == .busy && t.out.info == 2) = true ∧
    nextHas (exec (.cmdSetConfig { levelRx := 101 }) base) (fun t => t.out.cause == .notNegotiated) = true ∧
    nextHas (exec (.cmdSetConfig { levelRx := 101 }) { base with protoVersion := some .v2 }) (fun t =>
      t.out.cause == .badOperand && t.out.cmdStatus == .refused && t.out.tx == none && t.ackWait == .idle) = true := by
  decide

/-- P2 step 3, the registers: pending but not committed. -/
theorem test_set_config_accepted :
    nextHas (exec (.cmdSetConfig cfgA) { base with protoVersion := some .v1 }) (fun t =>
      t.cfgPending == cfgA && t.cfgCommitted == {} && t.ackWait == .waitConfig && t.ackTries == 0 &&
      t.out.cmdStatus == .ok) = true := by
  decide

/-- K3 and the BUSY of K29. -/
theorem test_set_freq :
    nextHas (exec (.cmdSetFreq 433000000 0xFF) base) (fun t =>
      t.out.tx == some [0xE0, 0x0D, 0x04, 0x00, 0x40, 0x0E, 0xCF, 0x19, 0x40, 0x0E, 0xCF, 0x19, 0xFF] &&
      t.ackWait == .waitFreq) = true ∧
    nextHas (exec (.cmdSetFreq 1 0) waiting) (fun t =>
      t.out.cause == .busy && t.out.info == 4 && t.out.tx == none && t.ackTries == 2) = true := by
  decide

/-- R235: the bank whose timer is 1 reports and is cleared, the other only counts down. -/
theorem test_clock :
    nextHas (exec .clock { base with
      ber := { p25 := { bits := 14, errors := 2, frames := 2, timer := 1, running := true },
               dmr := { bits := 7, frames := 1, timer := 3, running := true } } }) (fun t =>
      bankOf t.ber .p25 == {} && (bankOf t.ber .dmr).timer == 2 &&
      t.out.report.map (fun r => (r.id, r.errors, r.bits, r.frames, r.final)) == [(.p25, 2, 14, 2, true)]) = true := by
  decide

/-- B14 and the sticky flag of R237; K29 for id 6. -/
theorem test_ber_read :
    nextHas (exec (.berRead 0) { base with faultOvf := true }) (fun t =>
      t.out.report.map (fun r => (r.id, r.bits, r.final)) == [(.dstar, 0, false)] && t.out.cause == .counterOverflow) = true ∧
    nextHas (exec (.berRead 6) base) (fun t =>
      t.out.cause == .badOperand && t.out.info == 6 && t.out.report.isEmpty) = true := by
  decide

/-- F20 and R310: the framer and the tracker are reset, nothing is reported. -/
theorem test_reset :
    nextHas (exec .reset { waiting with rxState := .awaitType, rxOffset := 2, rxLength := 3, faultOvf := true }) (fun t =>
      framer t == (.awaitStart, 0, 0, false) && t.ackWait == .idle && t.protoVersion == none && !t.faultOvf &&
      t.out == {}) = true := by
  decide

/-- K29: a reserved opcode is its own info. -/
theorem test_reserved :
    nextHas (exec .reserved0303 waiting) (fun t => t.out.cause == .badOp && t.out.info == 0x03 && t.ackTries == 2) = true ∧
    nextHas (exec (.reserved80BF 63) base) (fun t => t.out.info == 0xBF && t.out.cmdStatus == .refused) = true ∧
    nextHas (exec (.reservedE0FF 31) base) (fun t => t.out.info == 0xFF) = true := by
  decide

/-- K9, K10: the two boards; K14: a failed decode writes nothing. -/
theorem test_version :
    nextHas (exec (.rxVersion frameK9) base) (fun t => t.protoVersion == some .v1 && t.hwType == some .generic) = true ∧
    nextHas (exec (.rxVersion (mkframe 0x00 ([0x02] ++ List.replicate 19 0x00 ++
      [0x5A, 0x55, 0x4D, 0x73, 0x70, 0x6F, 0x74]))) base) (fun t =>
      t.protoVersion == some .v2 && t.hwType == some .hotspotVariant) = true ∧
    nextHas (exec (.rxVersion (mkframe 0x00 [0x03, 0x4D, 0x4D, 0x44, 0x56, 0x4D, 0x20])) waiting) (fun t =>
      t.protoVersion == some .v1 && t.out.cause == .unsupportedVersion && t.out.info == 3 && t.ackTries == 3) = true := by
  decide

/-- K11, K16, K20, K21: wrong board, too short for the version byte, an empty and a missing description. -/
theorem test_version_fails :
    nextHas (exec (.rxVersion (mkframe 0x00 [0x01, 0x4D, 0x4D, 0x44, 0x56, 0x4D])) base) (fun t =>
      t.out.cause == .boardNotSupported && t.out.info == 0 && t.protoVersion == none) = true ∧
    nextHas (exec (.rxVersion (mkframe 0x00 [])) base) (fun t =>
      t.out.cause == .malformedResponse && t.out.info == 3) = true ∧
    nextHas (exec (.rxVersion (mkframe 0x00 (0x02 :: List.replicate 19 0x00))) base) (fun t =>
      t.out.cause == .boardNotSupported) = true ∧
    nextHas (exec (.rxVersion (mkframe 0x00 (0x02 :: List.replicate 18 0x00))) base) (fun t =>
      t.out.cause == .malformedResponse && t.out.info == 22) = true := by
  decide

/-- P2 step 9, K25: an ACK commits the awaited configuration; an unsolicited one changes nothing. -/
theorem test_ack :
    nextHas (exec (.rxAck [0xE0, 0x04, 0x70, 0x02]) waiting) (fun t =>
      t.out.link == .acked && t.cfgCommitted == { mode := 98 } && t.ackWait == .idle && t.ackTries == 0) = true ∧
    nextHas (exec (.rxAck [0xE0, 0x04, 0x70, 0x02]) base) (fun t => t.out.link == .none && t.cfgCommitted == {}) = true := by
  decide

/-- S8, K28: a NAK surfaces its reason byte and restores the pending configuration; a short one has no reason. -/
theorem test_nak :
    nextHas (exec (.rxNak [0xE0, 0x05, 0x7F, 0x02, 0x04]) waiting) (fun t =>
      t.out.link == .naked && t.out.linkInfo == some 0x04 && t.cfgPending == {} && t.cfgCommitted == {}) = true ∧
    nextHas (exec (.rxNak [0xE0, 0x03, 0x7F]) waiting) (fun t => t.out.link == .naked && t.out.linkInfo == none) = true := by
  decide

/-- P2 step 8: an interleaved frame is delivered and costs one attempt. -/
theorem test_pass_through :
    nextHas (exec (.rxStatus [0xE0, 0x05, 0x01, 0x01, 0x00]) waiting) (fun t =>
      t.out.cls == some .status && t.out.link == .none && t.ackTries == 3) = true ∧
    nextHas (exec (.rxDebugF5 [0xE0, 0x03, 0xF5]) base) (fun t => t.out.cls == some .debug && t.out.cause == .none) = true := by
  decide

/-- K24: the classes at the edges of the tag ranges. -/
theorem test_classes :
    [0x70, 0x7F, 0x00, 0x01, 0x10, 0x5F, 0x0F, 0x60, 0xF1, 0xF5, 0xF0, 0xF6, 0x02, 0x04, 0x03].map classOfTag =
      [.ack, .nak, .version, .status, .codecData, .codecData, .other, .other, .debug, .debug, .other, .other, .other,
       .other, .other] := by
  decide

/-- A table word runs as the first instruction after reset: its own step, from `withFetchWord`. -/
theorem test_with_fetch_word :
    nextHas (step (base.withFetchWord 24 0xE00570)) (fun t =>
      t.out.frame == some [0xE0, 0x05, 0x70, 0x00, 0x00] && t.out.cls == some .ack) = true ∧
    nextHas (step (base.withFetchWord 16 0x1E0)) (fun t => framer t == (.awaitLength, 1, 0, false)) = true ∧
    nextHas (step (base.withFetchWord 24 0xE00D04)) (fun t => t.ackWait == .waitFreq) = true := by
  decide

/-! ## Witnesses: what the hypotheses of each statement ask is met -/

/-- The middle of a short frame while a configuration is awaited. -/
def midWait : State := { mid .awaitPayload 5 false [0xE0, 0x05, 0x11] with
  protoVersion := some .v1, hwType := some .generic, cfgPending := { mode := 98 }, ackWait := .waitConfig, ackTries := 2 }

theorem test_witness_framer_inv : FramerInv midWait := by
  exact ⟨⟨by decide, by decide, by unfold LengthValid; decide⟩, ⟨fun _ => by decide, fun _ => by decide⟩,
    fun h => by cases h⟩

/-- The hypothesis of the invariant statements, in the middle of a frame with a command awaited and a bank running. -/
theorem test_witness_inv : Inv midWait where
  framer := test_witness_framer_inv
  buffer := by decide
  tracker := by unfold TrackerInv; decide
  cfg := by unfold CfgInv; decide
  version := rfl
  ber := by intro id; cases id <;> exact ⟨by unfold BankRanges; decide, by unfold BankCounts; decide⟩

theorem test_witness_bank_ranges : ∀ id, BankRanges (bankOf midWait.ber id) :=
  fun id => (test_witness_inv.ber id).1

/-- Of the three steps that the invariant statements speak of: a byte inside a frame, the last byte, no event. -/
theorem test_witness_steps :
    (∃ t, step { midWait with pending := [rxbEvent 0x22] } = .next t ∧ t.rxOffset = 4) ∧
    (∃ t, step (mid .awaitType 3 false [0xE0, 0x03]) = .next t) ∧
    (∃ t, step { mid .awaitType 3 false [0xE0, 0x03] with pending := [rxbEvent 0x01] } = .next t ∧
      t.out.rxStatus = .frameDone) :=
  ⟨⟨_, rfl, rfl⟩, ⟨_, rfl⟩, ⟨_, rfl, rfl⟩⟩

theorem test_witness_StepRunsTheDecodedEvent :
    (∃ e rest i, ({ base with pending := [.host 0xC0 {}, rxidleEvent] } : State).pending = e :: rest ∧
      decodeEvent e = .ok i) ∧ base.pending = [] :=
  ⟨⟨_, _, _, rfl, rfl⟩, rfl⟩

theorem test_witness_TransportWordDecode :
    (0x3FF#10 &&& 0x200 = 0x200) ∧ (0x200#10 &&& 0x200 = 0x200) ∧ (0x1FF#10 &&& 0x300 = 0x100) ∧
    (0x100#10 &&& 0x300 = 0x100) ∧ (0x0FF#10 &&& 0x300 = 0x000) ∧ (0x000#10 &&& 0x300 = 0x000) := by
  decide

theorem test_witness_DecodeOfEncode :
    (Instr.rxNak [0xE0, 0x05, 0x7F, 0x02, 0x04]).wf = true ∧ (Instr.txSetConfigV2 cfgB).wf = true := by
  decide

theorem test_witness_ReceivedFrameRunsTheRowOfItsTag :
    (∃ t : Byte, ([0xE0, 0x03, 0x70] : List Byte)[0]? = some 0xE0 ∧
      ([0xE0, 0x03, 0x70] : List Byte)[if ([0xE0, 0x03, 0x70] : List Byte)[1]? = some 0 then 4 else 2]? = some t) ∧
    (∃ t : Byte, ([0xE0, 0x00, 0x00, 0x05, 0xF1] : List Byte)[0]? = some 0xE0 ∧
      ([0xE0, 0x00, 0x00, 0x05, 0xF1] : List Byte)[if ([0xE0, 0x00, 0x00, 0x05, 0xF1] : List Byte)[1]? = some 0 then 4
        else 2]? = some t) :=
  ⟨⟨0x70, rfl, rfl⟩, ⟨0xF1, rfl, rfl⟩⟩

/-- AwaitStart with the marker and with the bytes beside it. -/
theorem test_witness_StartByteOpensAFrameOrIsNoise :
    base.rxState = .awaitStart ∧
    nextHas (exec (.rxb 0xDF) base) (fun t => framer t == framer base && t.buf == []) = true ∧
    nextHas (exec (.rxb 0xE1) base) (fun t => framer t == framer base && t.buf == []) = true := by
  decide

/-- Each clause at its bounds: 255 and 250, 0, 1, 3. -/
theorem test_witness_LengthByteDecidesTheForm :
    (mid .awaitLength 0 false [0xE0]).rxState = .awaitLength ∧
    [0xFF, 0xFA, 0x00, 0x01, 0x03].map (fun b => nextHas (exec (.rxb b) (mid .awaitLength 0 false [0xE0])) (fun t =>
      t.out.rxStatus == .protocolError)) = [true, true, false, true, false] ∧
    nextHas (exec (.rxb 0x03) (mid .awaitLength 0 false [0xE0])) (fun t => framer t == (.awaitType, 2, 3, false)) = true := by
  decide

/-- Both clauses; the second at lengths 4, 5 and 65535. -/
theorem test_witness_ExtendedLengthIsBigEndianAndBounded :
    (mid .awaitExtLen 0 true [0xE0, 0x00]).rxState = .awaitExtLen ∧ (mid .awaitExtLen 0 true [0xE0, 0x00]).rxOffset = 2 ∧
    (mid .awaitExtLen 0 true [0xE0, 0x00, 0xFF]).rxOffset = 3 ∧
    Memory.read (mid .awaitExtLen 0 true [0xE0, 0x00, 0xFF]).buf 2 = 0xFF ∧
    nextHas (exec (.rxb 0xFF) (mid .awaitExtLen 0 true [0xE0, 0x00, 0xFF])) (fun t => t.rxLength == 65535) = true ∧
    nextHas (exec (.rxb 0x05) (mid .awaitExtLen 0 true [0xE0, 0x00, 0x00])) (fun t => t.rxLength == 5) = true := by
  decide

/-- Both branches: the byte that is not the last and the one that is. -/
theorem test_witness_TypeAndPayloadBytesAreStoredOrComplete :
    midWait.rxState = .awaitPayload ∧ midWait.rxOffset < 65535 ∧
    Memory.readRange midWait.buf 0 midWait.rxOffset = [0xE0, 0x05, 0x11] ∧
    decode (.received ([0xE0, 0x05, 0x11] ++ [0x22])) = .ok (.rxCodecData101F [0xE0, 0x05, 0x11, 0x22]) ∧
    midWait.rxOffset + 1 ≠ midWait.rxLength ∧
    (mid .awaitType 3 false [0xE0, 0x03]).rxOffset + 1 = (mid .awaitType 3 false [0xE0, 0x03]).rxLength ∧
    Memory.readRange (mid .awaitType 3 false [0xE0, 0x03]).buf 0 2 = [0xE0, 0x03] ∧
    decode (.received ([0xE0, 0x03] ++ [0x70])) = .ok (.rxAck [0xE0, 0x03, 0x70]) := by
  refine ⟨rfl, by decide, rfl, rfl, by decide, rfl, rfl, rfl⟩

theorem test_witness_PayloadByteThatIsNotLastIsStored :
    midWait.rxState = .awaitPayload ∧ midWait.rxOffset < 65535 ∧ midWait.rxOffset + 1 ≠ midWait.rxLength := by
  decide

/-- The last byte of a short frame. -/
theorem test_witness_LastByteDeliversTheWholeFrame :
    FramerInv (mid .awaitType 3 false [0xE0, 0x03]) ∧ (mid .awaitType 3 false [0xE0, 0x03]).rxState = .awaitType ∧
      (mid .awaitType 3 false [0xE0, 0x03]).rxOffset + 1 = (mid .awaitType 3 false [0xE0, 0x03]).rxLength := by
  exact ⟨⟨⟨by decide, by unfold LengthValid; decide⟩, ⟨fun _ => by decide, fun _ => by decide⟩,
    fun h => by cases h⟩, rfl, rfl⟩

/-- The last byte of an extended frame. -/
theorem test_witness_LastByteOfAnExtendedFrame :
    FramerInv (mid .awaitPayload 6 true [0xE0, 0x00, 0x00, 0x06, 0x70]) ∧
    (mid .awaitPayload 6 true [0xE0, 0x00, 0x00, 0x06, 0x70]).rxOffset + 1 = 6 := by
  exact ⟨⟨⟨by decide, by decide, by unfold LengthValid; decide⟩, ⟨fun _ => by decide, fun _ => by decide⟩,
    fun _ _ => by decide⟩, rfl⟩

/-- A state for each of the three stops; the invariants of the first clause hold in `midWait`. -/
theorem test_witness_RxbStopsOnlyOffTheFramerInvariants :
    (FramerTable midWait ∧ MarkerAndLength midWait) ∧
    ({ base with rxState := .awaitExtLen, rxOffset := 4 } : State).rxOffset ≠ 2 ∧
    exec (.rxb 0) { base with rxState := .awaitExtLen, rxOffset := 4 } = .fault .noFramerRule ∧
    exec (.rxb 0) { base with rxState := .awaitPayload, rxOffset := 65535 } = .fault .bufferBounds ∧
    exec (.rxb 0) { base with rxState := .awaitType, rxOffset := 0, rxLength := 1 } = .fault (.noFrame .badMarker) :=
  ⟨⟨test_witness_framer_inv.1, test_witness_framer_inv.2.1⟩, by decide, rfl, rfl, rfl⟩

theorem test_witness_SetFreqSendsThirteenBytesOrIsBusy : base.ackWait = .idle ∧ waiting.ackWait ≠ .idle := by
  decide

/-- Both versions, `CFG_B` at the bounds of its ranges. -/
theorem test_witness_SetConfigSendsTheLayoutOfItsVersion :
    base.ackWait = .idle ∧ ({ base with protoVersion := some .v1 } : State).protoVersion = some .v1 ∧
    ({ base with protoVersion := some .v2 } : State).protoVersion = some .v2 ∧ cfgB.valid := by
  decide

/-- Every id, and the two reserved ones. -/
theorem test_witness_BerReadReportsOneBank :
    [0, 1, 2, 3, 4, 5, 6, 7].map checkerOfNumber =
      [some .dstar, some .dmr, some .dmr1031, some .ysf, some .p25, some .nxdn, none, none] ∧
    checkerNumber .nxdn = (5 : BitVec 3).toNat ∧ 6 ≤ (6 : BitVec 3).toNat := by
  decide

theorem test_witness_FramerInvariantsHold : FramerTable midWait ∧ MarkerAndLength midWait :=
  ⟨test_witness_framer_inv.1, test_witness_framer_inv.2.1⟩

theorem test_witness_TrackerInvariantsHold : TrackerInv midWait :=
  test_witness_inv.tracker

/-- One attempt left; a tick, a refused command, one report other than `CONTINUE`. -/
theorem test_witness_AwaitedCommandAlwaysEnds :
    ∃ t os, feed [clockEvent, .host 0x04 {}, rxidleEvent] { waiting with ackTries := 29 } = some (t, os) ∧
      waiting.ackWait ≠ .idle ∧ (∀ e ∈ [clockEvent, .host 0x04 {}, rxidleEvent], isResetEvent e = false) ∧
      30 ≤ 29 + (os.filter (fun o => o.rxStatus != .cont)).length :=
  ⟨_, _, rfl, by decide, by decide, by decide⟩

theorem test_witness_SilenceEndsUnresponsive :
    ({ waiting with ackTries := 0 } : State).ackWait ≠ .idle ∧ ({ waiting with ackTries := 0 } : State).ackTries = 0 := by
  decide

/-- The bounds of each clause: payloads of 0 and 246 bytes, length bytes 250 and 255, extended payloads up to 65530. -/
theorem test_witness_FramerYieldsTheDeclaredLength :
    base.rxState = .awaitStart ∧ 3 + ([] : List Byte).length < 250 ∧ 3 + (List.replicate 246 (0 : Byte)).length < 250 ∧
    250 ≤ (0xFA : Byte).toNat ∧ 250 ≤ (0xFF : Byte).toNat ∧ 5 + (List.replicate 65530 (0 : Byte)).length ≤ 65535 := by
  refine ⟨rfl, by decide, ?_, by decide, by decide, ?_⟩ <;> rw [List.length_replicate] <;> decide

theorem test_witness_ReassemblyIsChunkIndependent :
    rxChunk [0xE0, 0x03] = (rxChunk [0xE0, 0x03]).filter (fun e => !isIdleEvent e) ∧
    ([rxidleEvent, rxbEvent 0xE0, rxidleEvent, rxbEvent 0x03]).filter (fun e => !isIdleEvent e) = rxChunk [0xE0, 0x03] ∧
    base.ackWait = .idle := by
  decide

theorem test_witness_NoiseIsDiscardedUntilAMarker :
    base.rxState = .awaitStart ∧ (∀ b ∈ ([0x00, 0x41] : List Byte), b ≠ 0xE0) ∧ 3 + ([0x02] : List Byte).length < 250 := by
  decide

/-- The statements about who writes a register: a commit, a NAK, a decoded version, a tick, a reset, an abort. -/
theorem test_witness_writers :
    (∃ t, exec (.rxAck [0xE0, 0x03, 0x70]) waiting = .next t ∧ t.cfgCommitted = waiting.cfgPending) ∧
    (∃ t, exec (.rxNak [0xE0, 0x03, 0x7F]) waiting = .next t ∧ t.out.link = .naked) ∧
    (∃ t, exec (.rxVersion frameK9) base = .next t ∧ t.out.cls = some .version) ∧
    (∃ t, exec .clock base = .next t) ∧ (∃ t, exec .reset waiting = .next t) ∧
    (∃ t, exec (.rxerr false 0) midWait = .next t ∧ t.buf = midWait.buf) :=
  ⟨⟨_, rfl, rfl⟩, ⟨_, rfl, rfl⟩, ⟨_, rfl, rfl⟩, ⟨_, rfl⟩, ⟨_, rfl⟩, ⟨_, rfl, rfl⟩⟩

theorem test_witness_BufferByteWriters :
    FramerInv midWait ∧ ∃ t, exec (.rxb 0x22) midWait = .next t ∧ Memory.read t.buf 3 = 0x22 :=
  ⟨test_witness_framer_inv, _, rfl, rfl⟩

/-- A set flag is kept; an overflow that sets it at the accumulator. -/
theorem test_witness_OverflowFlagIsSticky :
    (∃ t, exec .clock { base with faultOvf := true } = .next t ∧ Instr.clock ≠ .reset) ∧
    (accumulate .ysf 1 7 { base with ber := { ysf := { bits := 4294967295 } } }).faultOvf = true :=
  ⟨⟨_, rfl, by decide⟩, by decide +kernel⟩

theorem test_witness_RefusedCommandDoesNothing :
    ∃ t, exec (.cmdSetFreq 1 0) waiting = .next t ∧ t.out.cmdStatus = .refused :=
  ⟨_, rfl, rfl⟩

theorem test_witness_EventsReportOnlyWhatTheTableAllows :
    (∃ t, exec (.rxb 0xFA) (mid .awaitLength 0 false [0xE0]) = .next t ∧ t.out.cause = .invalidLength) ∧
    (∃ t, exec (.rxidle 0) waiting = .next t) ∧ (∃ t, exec (.berRead 7) base = .next t) :=
  ⟨⟨_, rfl, rfl⟩, ⟨_, rfl⟩, ⟨_, rfl⟩⟩

theorem test_witness_OutputRecordIsWellFormed :
    FramerInv midWait ∧ ∃ t, step (present (rxbEvent 0x22) midWait) = .next t :=
  ⟨test_witness_framer_inv, _, rfl⟩

theorem test_witness_SentFramesAreShortWireFrames :
    ∃ t f, exec (.cmdSetConfig cfgA) { base with protoVersion := some .v1 } = .next t ∧ t.out.tx = some f :=
  ⟨_, _, rfl, rfl⟩

/-- Both illustrative layouts, for the two statements about layouts. -/
theorem test_witness_ConfigurationRoundTrip :
    illustrativeV1.wf 27 ∧ 27 < 250 ∧ cfgB.valid ∧ illustrativeV2.wf 40 ∧ 40 < 250 ∧ cfgA.valid :=
  ⟨by decide, by decide, by decide, by decide, by decide, by decide⟩

/-- An index that no field of the layout claims holds the fill byte. -/
theorem test_witness_ConfigurationFrameShape :
    illustrativeV1.wf 27 ∧ 26 ∉ illustrativeV1.listed ∧ (∀ f ∈ FlagName.all, (illustrativeV1.flag f).off ≠ 26) ∧
    (∀ g ∈ FlagName.all, (illustrativeV1.flag g).off = (illustrativeV1.flag .duplex).off →
      (illustrativeV1.flag g).bit ≠ 5) := by
  decide

theorem test_witness_LevelAndOffsetBytes :
    (0 : Int) ≤ 100 * Config.levelScale ∧ encLevel (100 * Config.levelScale) = 0xFF ∧ encDc (-128) = 0x00 ∧
    encDc 127 = 0xFF := by
  decide

theorem test_witness_CountErrsOfSequencesCountsBits :
    ([0xFF, 0x00] : List Byte).length = ([0x0F, 0x01] : List Byte).length ∧
    countErrsBits (packedBits [0xFF, 0x00] (List.range 16)) (packedBits [0x0F, 0x01] (List.range 16)) = 5 := by
  decide

/-- `TOY74` is admissible and scores the payload of B9. -/
theorem test_witness_CheckerScoreIsBounded : toy74.Admissible ∧ checkFrame toy74 0 [0xB0] = some (1, 7) := by
  refine ⟨⟨fun _ _ => List.length_replicate, ?_, ?_, ?_, ?_, ?_⟩, by decide⟩
  · intro st b hb; obtain rfl := List.mem_singleton.mp hb; decide
  · intro st b hb x hx; obtain rfl := List.mem_singleton.mp hb; rfl
  · intro st p hp b hb i hi
    obtain rfl := List.mem_singleton.mp hb
    have hp : p.length = 1 := beq_iff_eq.mp hp
    have hi : i ∈ [0, 1, 2, 3, 4, 5, 6] := hi
    simp only [List.mem_cons, List.not_mem_nil, or_false] at hi
    omega
  · intro st p _; exact (by decide : (3 : Nat) ≤ 7)
  · intro st; exact (by decide : (1 : Nat) ≤ 7)

theorem test_witness_BerRateIsAnExactPercentage :
    (bankOf base.ber .dmr).bits = 0 ∧
    (bankOf ({ dmr := { bits := 7, errors := 7 } } : BerBanks) .dmr).bits ≠ 0 ∧
    (bankOf ({ dmr := { bits := 7, errors := 7 } } : BerBanks) .dmr).errors ≤ 7 := by
  decide

theorem test_witness_BerAccumulationLaw :
    ([(3, 141), (0, 141)] : List (Nat × Nat)) ≠ [] ∧ bankOf base.ber .dmr = {} ∧
    (([(3, 141), (0, 141)] : List (Nat × Nat)).map Prod.fst).sum ≤ 2 ^ 32 - 1 ∧
    (([(3, 141), (0, 141)] : List (Nat × Nat)).map Prod.snd).sum ≤ 2 ^ 32 - 1 ∧
    ([(3, 141), (0, 141)] : List (Nat × Nat)).length ≤ 2 ^ 32 - 1 := by
  decide

/-- A bank that runs, with two ticks to go. -/
def ticking : State := { base with ber := { dmr := { bits := 141, errors := 3, frames := 1, timer := 2, running := true } } }

/-- Noise, a tick, another class and a read between; the timeout does not fire. -/
theorem test_witness_BankHoldsTheScoresOfTheRun :
    ∃ t os, feed [rxbEvent 0x41, clockEvent, .host 0xC1 { id := 1 }] ticking = some (t, os) ∧
      (∀ e ∈ [rxbEvent 0x41, clockEvent, .host 0xC1 { id := 1 }], isResetEvent e = false) ∧ Claims.fired .dmr os = false ∧
      scoresOf .dmr [rxbEvent 0x41, clockEvent, .host 0xC1 { id := 1 }] ticking = [] ∧ (bankOf t.ber .dmr).timer = 1 :=
  ⟨_, _, rfl, by decide, rfl, rfl, rfl⟩

/-- One tick with other events around it, then the next tick fires. -/
theorem test_witness_TimeoutReportsTheSumsOnce :
    (bankOf ticking.ber .dmr).running = true ∧ (bankOf ticking.ber .dmr).timer = 1 + 1 ∧
    (∀ e ∈ [rxbEvent 0x41, clockEvent, rxidleEvent], isResetEvent e = false) ∧
    ([rxbEvent 0x41, clockEvent, rxidleEvent].filter isClockEvent).length = 1 ∧
    scoresOf .dmr [rxbEvent 0x41, clockEvent, rxidleEvent] ticking = [] ∧
    ∃ t os, feed [rxbEvent 0x41, clockEvent, rxidleEvent] ticking = some (t, os) :=
  ⟨rfl, rfl, by decide, by decide, rfl, _, _, rfl⟩

end Sys2Proof.Tests
end

/-! Proofs of the statements on 00_scope.md: a step runs the decoded event (R7), and the output record of
every step is well formed (R8). -/

namespace Sys2Proof.Proofs

open Sys2Proof.Machine Sys2Proof.Safety

/-! ## The order of the BER reports -/

/-- The order that R8 asks of the reports of one step: strictly rising ids. -/
def RisingIds (rs : List BerReport) : Prop :=
  rs.Pairwise (fun a b => checkerNumber a.id < checkerNumber b.id)

theorem checkerNumber_lt_six (id : CheckerId) : checkerNumber id < 6 := by
  cases id <;> decide

/-- The final reports of a tick are a filtered sublist of the six ids in their order (42_fec_ber.md R235). -/
theorem clockReports_risingIds (b : BerBanks) : RisingIds (clockReports b) := by
  have hids : checkerIds.Pairwise (fun i j => checkerNumber i < checkerNumber j) := by decide
  exact List.pairwise_map.mpr (hids.filter _)

/-! ## Well-formed output records -/

/-- The presence conditions, the range of `info` and the order of the reports (00_scope.md R8). -/
structure OutputWellFormed (o : Output) : Prop where
  frame_iff_done : o.frame.isSome = true ↔ o.rxStatus = .frameDone
  cls_with_frame : o.cls.isSome = o.frame.isSome
  linkInfo_naked : o.linkInfo.isSome = true → o.link = .naked
  info_lt : o.info < 65536
  report_rising : RisingIds o.report

/-- A record without a frame, a class and a NAK reason is well formed when its `info` and its reports are. -/
theorem OutputWellFormed.of_noFrame {o : Output} (hstatus : o.rxStatus ≠ .frameDone) (hframe : o.frame = none)
    (hcls : o.cls = none) (hlink : o.linkInfo = none) (hinfo : o.info < 65536) (hrep : RisingIds o.report) :
    OutputWellFormed o where
  frame_iff_done := by simp [hframe, hstatus]
  cls_with_frame := by rw [hcls, hframe]; rfl
  linkInfo_naked := by simp [hlink]
  info_lt := hinfo
  report_rising := hrep

/-- What a transport word without a delivered frame reports is well formed: status, link, cause and `info` alone. -/
theorem outputWellFormed_noDelivery (r : RxStatus) (l : Link) (c : Cause) (n : Nat) (hr : r ≠ .frameDone)
    (hn : n < 65536) : OutputWellFormed { rxStatus := r, link := l, cause := c, info := n } :=
  .of_noFrame hr rfl rfl rfl hn .nil

/-! ## The output of a delivery -/

/-- The tracker leaves the cause's `info` alone. -/
@[simp] theorem track_out_info (s : State) : (track s).out.info = s.out.info := by
  rw [track_keeps]

/-- The tracker reports a NAK reason only with `NAKED` (41_codec.md R194). -/
theorem track_linkInfo_naked {s : State} (hs : s.out.linkInfo = none) (h : (track s).out.linkInfo.isSome = true) :
    (track s).out.link = .naked := by
  rcases track_cases s with ⟨_, ht⟩ | ⟨_, _, ⟨_, ht⟩ | ⟨f, _, _, ht⟩ | ⟨_, _, ht⟩ | ⟨_, _, ht⟩⟩
  case inr.inr.inl => rw [ht, naked_out]
  all_goals simp [ht, hs] at h

/-- The `info` of a version response is a length of the frame or its version byte (41_codec.md R186). -/
theorem decodeVersion_info_lt {f : List Byte} {s : State} (hf : f.length < 65536) (hs : s.out.info < 65536) :
    (decodeVersion f s).out.info < 65536 := by
  rcases decodeVersion_cases f s with ⟨c, n, _, hn, h⟩ | ⟨v, k, h⟩
  · rw [h, failDecode_out]
    show n < 65536
    omega
  · rwa [h]

/-- The `info` after an offer to the checker bank is the one before it or a checker id (42_fec_ber.md R239). -/
theorem berDispatch_info_lt {f : List Byte} {s : State} (hs : s.out.info < 65536) :
    (berDispatch f s).out.info < 65536 := by
  rcases berDispatch_cases f s with h | ⟨id, e, n, _, h⟩
  · rwa [h]
  · rw [h]
    rcases accumulate_cases id e n s with ⟨_, h⟩ | ⟨_, h⟩
    · rw [h, overflow_out]
      exact (checkerNumber_lt_six id).trans (by decide)
    · rwa [h]

/-- A delivery of a frame that fits in the buffer has an `info` of 16 bits. -/
theorem dispatchFrame_info_lt (c : FrameClass) {f : List Byte} (hf : f.length < 65536) (s : State) :
    (dispatchFrame c f s).out.info < 65536 := by
  have hd : (deliver f c s).out.info < 65536 := by simp
  rw [dispatchFrame_eq]
  split
  · exact berDispatch_info_lt (by rwa [track_out_info])
  · rw [track_out_info]
    split
    · exact decodeVersion_info_lt hf hd
    · exact hd

/-- A delivery reports a NAK reason only with `NAKED`: no operation but the tracker writes the link fields. -/
theorem dispatchFrame_linkInfo_naked (c : FrameClass) (f : List Byte) (s : State) :
    (dispatchFrame c f s).out.linkInfo.isSome = true → (dispatchFrame c f s).out.link = .naked := by
  rw [dispatchFrame_eq]
  split
  · rw [berDispatch_keeps]
    exact track_linkInfo_naked rfl
  · refine track_linkInfo_naked ?_
    split
    · rw [decodeVersion_keeps]; rfl
    · rfl

theorem dispatchFrame_outputWellFormed (c : FrameClass) {f : List Byte} (hf : f.length < 65536) (s : State) :
    OutputWellFormed (dispatchFrame c f s).out := by
  obtain ⟨hstatus, hframe, hcls, _, _, hrep⟩ := dispatchFrame_out c f s
  exact {
    frame_iff_done := by simp [hframe, hstatus]
    cls_with_frame := by rw [hcls, hframe]; rfl
    linkInfo_naked := dispatchFrame_linkInfo_naked c f s
    info_lt := dispatchFrame_info_lt c hf s
    report_rising := by rw [hrep]; exact .nil }

/-! ## The output of a transport word -/

/-- A frame delivered by `RXB` has at most `BUF_BYTES` bytes, whatever the framer's registers hold. -/
theorem execRxb_outputWellFormed (b : Byte) {s t : State} (h : execRxb b s = .next t) : OutputWellFormed t.out := by
  rcases execRxb_cases h with
    ⟨_, _, rfl⟩ | ⟨_, _, _, _, _, rfl⟩ | ⟨v, hv, rfl⟩ | ⟨_, _, _, hoff, hlast, rfl, _, _, rfl⟩
  · exact outputWellFormed_noDelivery .cont .none .none 0 nofun (by decide)
  · exact outputWellFormed_noDelivery .cont .none .none 0 nofun (by decide)
  · obtain ⟨_, _, _, l, he⟩ := invalidLength_cases v s
    rw [he]
    exact outputWellFormed_noDelivery .protocolError l .invalidLength v nofun hv
  · refine dispatchFrame_outputWellFormed _ ?_ _
    have hbuf : Config.bufBytes = 65535 := rfl
    rw [Memory.readRange_length]
    omega

theorem execRxidle_outputWellFormed (d : Byte) {s t : State} (h : execRxidle d s = .next t) :
    OutputWellFormed t.out := by
  obtain ⟨_, _, _, l, he⟩ := execRxidle_cases d s
  obtain rfl := Host.Outcome.next.inj (he.symm.trans h)
  exact outputWellFormed_noDelivery .wouldBlock l .none 0 nofun (by decide)

theorem execRxerr_outputWellFormed (v : Bool) (d : Byte) {s t : State} (h : execRxerr v d s = .next t) :
    OutputWellFormed t.out := by
  obtain ⟨_, _, _, l, he⟩ := execRxerr_cases v d s
  obtain rfl := Host.Outcome.next.inj (he.symm.trans h)
  exact outputWellFormed_noDelivery .transportError l .transportReadError 0 nofun (by decide)

/-! ## The output of a host opcode -/

/-- Every output record a host opcode can give, from the banks before it: a sent frame or nothing, a refusal, the final
reports of a tick, one read report. -/
inductive HostOutput (b : BerBanks) : Output → Prop
  | sent (tx : Option (List Byte)) : HostOutput b { tx := tx }
  | refused (c : Cause) {n : Nat} (hn : n < 256) : HostOutput b { cmdStatus := .refused, cause := c, info := n }
  | ticked : HostOutput b { report := clockReports b }
  | read (id : CheckerId) (c : Cause) : HostOutput b { report := [mkReport b id false], cause := c }

theorem execCmdSetConfig_hostOutput {c : Cfg} {s t : State} (h : execCmdSetConfig c s = .next t) :
    HostOutput s.ber t.out := by
  unfold execCmdSetConfig at h
  split at h
  · obtain rfl := Host.Outcome.next.inj h
    exact .refused .busy (by decide)
  · split at h
    · obtain rfl := Host.Outcome.next.inj h
      exact .refused .notNegotiated (by decide)
    · split at h
      · split at h <;> (obtain rfl := Host.Outcome.next.inj h; exact .sent _)
      · obtain rfl := Host.Outcome.next.inj h
        exact .refused .badOperand (by decide)

theorem execCmdSetFreq_hostOutput {f : BitVec 32} {p : Byte} {s t : State} (h : execCmdSetFreq f p s = .next t) :
    HostOutput s.ber t.out := by
  unfold execCmdSetFreq at h
  split at h <;> obtain rfl := Host.Outcome.next.inj h
  · exact .refused .busy (by decide)
  · exact .sent _

theorem execBerRead_hostOutput {id : BitVec 3} {s t : State} (h : execBerRead id s = .next t) :
    HostOutput s.ber t.out := by
  unfold execBerRead at h
  split at h <;> obtain rfl := Host.Outcome.next.inj h
  · exact .refused .badOperand (id.isLt.trans (by decide))
  · exact .read _ _

/-- A reserved opcode is refused with the opcode as `info` (30_encoding.md R104). -/
theorem refuseReserved_hostOutput {op : BitVec 8} {s t : State}
    (h : (.next (refuseReserved op s) : Result) = .next t) : HostOutput s.ber t.out := by
  obtain rfl := Host.Outcome.next.inj h
  exact .refused .badOp op.isLt

/-- The commands by their own lemmas, in the order of the table; every row after them is reserved. -/
theorem exec_hostOutput {r : HostRow} (hr : r ∈ hostTable) {op : BitVec 8} {x : Operands} {s t : State}
    (h : exec (r.make op x) s = .next t) : HostOutput s.ber t.out := by
  fin_cases hr
  · obtain rfl := Host.Outcome.next.inj h
    exact .sent _
  · obtain rfl := Host.Outcome.next.inj h
    exact .sent _
  · exact execCmdSetConfig_hostOutput h
  · exact execCmdSetFreq_hostOutput h
  · obtain rfl := Host.Outcome.next.inj h
    exact .ticked
  · exact execBerRead_hostOutput h
  · obtain rfl := Host.Outcome.next.inj h
    exact .sent none
  all_goals exact refuseReserved_hostOutput h

theorem HostOutput.outputWellFormed {b : BerBanks} {o : Output} (h : HostOutput b o) : OutputWellFormed o := by
  cases h with
  | sent tx => exact .of_noFrame nofun rfl rfl rfl (Nat.succ_pos _) .nil
  | refused c hn => exact .of_noFrame nofun rfl rfl rfl (hn.trans (by decide)) .nil
  | ticked => exact .of_noFrame nofun rfl rfl rfl (Nat.succ_pos _) (clockReports_risingIds b)
  | read id c => exact .of_noFrame nofun rfl rfl rfl (Nat.succ_pos _) (List.pairwise_singleton _ _)

/-! ## The statements -/

/-- From every state, with the framer invariants or without them, an event answers with a well-formed record. -/
theorem step_outputWellFormed {e : Event} {s t : State} (h : step (present e s) = .next t) :
    OutputWellFormed t.out := by
  obtain ⟨i, hi⟩ := decodeEvent_total e
  rw [step_present hi] at h
  rcases decodeEvent_cases hi with ⟨v, d, rfl⟩ | ⟨d, rfl⟩ | ⟨d, rfl⟩ | ⟨r, hr, op, x, rfl⟩
  · exact execRxerr_outputWellFormed v d h
  · exact execRxb_outputWellFormed d h
  · exact execRxidle_outputWellFormed d h
  · exact (exec_hostOutput hr h).outputWellFormed

/-- Settles O48, by the output each port's events can give: a delivery by what the decoder, the tracker and the bank
write of the record, every other event without a frame. -/
theorem outputRecordIsWellFormed : Obligations.OutputRecordIsWellFormed := by
  unfold Obligations.OutputRecordIsWellFormed
  intro e s t _ h
  obtain ⟨hframe, hcls, hlink, hinfo, hrep⟩ := step_outputWellFormed h
  exact ⟨hframe, hcls, hlink, hinfo, hrep⟩

/-- The step of a state with an event waiting is the step of that event presented to the state without it. -/
theorem step_of_pending {s : State} {e : Event} {rest : List Event} {i : Instr} (hp : s.pending = e :: rest)
    (hi : decodeEvent e = .ok i) : step s = exec i { s with pending := rest } := by
  have hs : present e { s with pending := rest } = s := by rw [present, ← hp]
  calc step s = step (present e { s with pending := rest }) := by rw [hs]
    _ = exec i { s with pending := rest } := step_present hi _

/-- With no event waiting the block keeps all its state (the model's choice, log 4). -/
theorem step_of_no_pending {s : State} (hp : s.pending = []) : step s = .next s := by
  rcases step_cases s with ⟨_, h⟩ | ⟨e, rest, _, hp', _, _⟩
  · exact h
  · rw [hp] at hp'; cases hp'

/-- Settles O1, from the totality of the event decoder (30_encoding.md R100, R104) and the two cases of a step. -/
theorem stepRunsTheDecodedEvent : Obligations.StepRunsTheDecodedEvent := by
  unfold Obligations.StepRunsTheDecodedEvent
  exact ⟨decodeEvent_total, fun _ _ _ _ hp hi => step_of_pending hp hi, fun _ hp => step_of_no_pending hp⟩

end Sys2Proof.Proofs

/-! Proofs of the statements on 10_state.md, the framer's part: the table of R26, what `RXB` stores where, and where
`RXB` stops. -/

namespace Sys2Proof.Proofs

open Sys2Proof.Machine Sys2Proof.Safety

/-! ## A step is an event's instruction, so an invariant is one about instructions -/

/-- A predicate that does not speak of the waiting events and that every event's instruction keeps is kept by a step. -/
theorem step_keeps {P : State → Prop} (hpending : ∀ s rest, P s → P { s with pending := rest })
    (hexec : ∀ e i s t, decodeEvent e = .ok i → P s → exec i s = .next t → P t)
    {s t : State} (hs : P s) (h : step s = .next t) : P t := by
  rcases step_cases s with ⟨_, he⟩ | ⟨e, rest, i, _, hi, he⟩
  · rw [he] at h
    exact Host.Outcome.next.inj h ▸ hs
  · rw [he] at h
    exact hexec e i _ t hi (hpending s rest hs) h

/-! ## The table of 10_state.md R26, row by row -/

theorem lengthValid_iff (s : State) :
    LengthValid s ↔ if s.rxExt then 5 ≤ s.rxLength ∧ s.rxLength ≤ 65535 else 3 ≤ s.rxLength ∧ s.rxLength < 250 :=
  Iff.rfl

theorem framerTable_awaitStart {s : State} (hs : s.rxState = .awaitStart) :
    FramerTable s ↔ s.rxOffset = 0 ∧ s.rxExt = false ∧ s.rxLength = 0 := by
  simp only [FramerTable, hs]

theorem framerTable_awaitLength {s : State} (hs : s.rxState = .awaitLength) :
    FramerTable s ↔ s.rxOffset = 1 ∧ s.rxExt = false ∧ s.rxLength = 0 := by
  simp only [FramerTable, hs]

theorem framerTable_awaitExtLen {s : State} (hs : s.rxState = .awaitExtLen) :
    FramerTable s ↔ (s.rxOffset = 2 ∨ s.rxOffset = 3) ∧ s.rxExt = true ∧ s.rxLength = 0 := by
  simp only [FramerTable, hs]

theorem framerTable_awaitType {s : State} (hs : s.rxState = .awaitType) :
    FramerTable s ↔ s.rxOffset = (if s.rxExt then 4 else 2) ∧ LengthValid s := by
  simp only [FramerTable, hs]

theorem framerTable_awaitPayload {s : State} (hs : s.rxState = .awaitPayload) :
    FramerTable s ↔ (if s.rxExt then 5 else 3) ≤ s.rxOffset ∧ s.rxOffset < s.rxLength ∧ LengthValid s := by
  simp only [FramerTable, hs]

/-- What the rows of `AwaitType` and `AwaitPayload` have in common: the header is stored, the frame is not complete. -/
theorem framerTable_frameByte {s : State} (h : FramerTable s) (hs : s.rxState = .awaitType ∨ s.rxState = .awaitPayload) :
    LengthValid s ∧ (if s.rxExt then 4 else 2) ≤ s.rxOffset ∧ s.rxOffset < s.rxLength := by
  rcases hs with hs | hs
  · obtain ⟨hoff, hlen⟩ := (framerTable_awaitType hs).mp h
    refine ⟨hlen, hoff.ge, ?_⟩
    rw [lengthValid_iff] at hlen
    grind
  · obtain ⟨hoff, hlt, hlen⟩ := (framerTable_awaitPayload hs).mp h
    exact ⟨hlen, by grind, hlt⟩

/-- The next byte always has an address in the buffer (20_memory.md R60). -/
theorem rxOffset_lt_of_framerTable {s : State} (h : FramerTable s) : s.rxOffset < 65535 := by
  have frameByte (hs : s.rxState = .awaitType ∨ s.rxState = .awaitPayload) : s.rxOffset < 65535 := by
    obtain ⟨hlen, _, hlt⟩ := framerTable_frameByte h hs
    rw [lengthValid_iff] at hlen
    split at hlen <;> omega
  cases hs : s.rxState with
  | awaitStart => have := ((framerTable_awaitStart hs).mp h).1; omega
  | awaitLength => have := ((framerTable_awaitLength hs).mp h).1; omega
  | awaitExtLen => have := ((framerTable_awaitExtLen hs).mp h).1; omega
  | awaitType => exact frameByte (.inl hs)
  | awaitPayload => exact frameByte (.inr hs)

/-! ## What `RXB` does to the framer's registers -/

/-- The framer at its start with nothing stored (10_state.md R40, 60_exceptions.md R285). -/
structure AtStart (t : State) : Prop where
  state : t.rxState = .awaitStart
  offset : t.rxOffset = 0
  length : t.rxLength = 0
  ext : t.rxExt = false

/-- A byte is stored at the old offset, the offset moves on by one to a row of the table, and the header fields agree
with the bytes as they come in (40_framer.md R131 to R140). -/
structure Stores (b : Byte) (s t : State) : Prop where
  buf : t.buf = Memory.write s.buf s.rxOffset b
  offset : t.rxOffset = s.rxOffset + 1
  table : FramerTable t
  marker : s.rxOffset = 0 → b = Config.startMarker
  lengthByte : s.rxOffset = 1 → b = if t.rxExt then 0 else BitVec.ofNat 8 t.rxLength
  form : 2 ≤ s.rxOffset → t.rxExt = s.rxExt
  shortLength : 2 ≤ s.rxOffset → s.rxExt = false → t.rxLength = s.rxLength
  extLength : s.rxOffset = 3 → s.rxExt = true → t.rxLength = bigEndian16 (Memory.read s.buf 2) b
  length : 4 ≤ s.rxOffset → t.rxLength = s.rxLength

/-- From a row of the table, `RXB` goes back to the start, with or without the byte stored, or stores the byte. -/
inductive RxbEffect (b : Byte) (s t : State) : Prop
  | ended (hstart : AtStart t) (hbuf : t.buf = s.buf ∨ t.buf = Memory.write s.buf s.rxOffset b)
  | stored (h : Stores b s t)

theorem invalidLength_framer (v : Nat) (s : State) : AtStart (invalidLength v s) ∧ (invalidLength v s).buf = s.buf := by
  obtain ⟨_, _, _, _, h⟩ := invalidLength_cases v s
  rw [h]
  exact ⟨⟨rfl, rfl, rfl, rfl⟩, rfl⟩

theorem invalidLength_effect (b : Byte) (v : Nat) (s : State) : RxbEffect b s (invalidLength v s) :=
  .ended (invalidLength_framer v s).1 (.inl (invalidLength_framer v s).2)

theorem rxAwaitStart_effect (b : Byte) {s : State} (hs : s.rxState = .awaitStart) (h : FramerTable s) :
    RxbEffect b s (rxAwaitStart b s) := by
  obtain ⟨hoff, hext, hlen⟩ := (framerTable_awaitStart hs).mp h
  unfold rxAwaitStart
  split
  · next hb =>
    exact .stored {
      buf := by rw [hoff]
      offset := by rw [hoff]
      table := (framerTable_awaitLength rfl).mpr ⟨rfl, hext, hlen⟩
      marker := fun _ => hb
      lengthByte := by omega
      form := by omega
      shortLength := by omega
      extLength := by omega
      length := by omega }
  · exact .ended ⟨hs, hoff, hlen, hext⟩ (.inl rfl)

theorem rxAwaitLength_effect (b : Byte) {s : State} (hs : s.rxState = .awaitLength) (h : FramerTable s) :
    RxbEffect b s (rxAwaitLength b s) := by
  obtain ⟨hoff, hext, hlen⟩ := (framerTable_awaitLength hs).mp h
  unfold rxAwaitLength
  split
  · exact invalidLength_effect b _ s
  · next hmax =>
    split
    · next hesc =>
      exact .stored {
        buf := by rw [hoff]
        offset := by rw [hoff]
        table := (framerTable_awaitExtLen rfl).mpr ⟨.inl rfl, rfl, hlen⟩
        marker := by omega
        lengthByte := fun _ => BitVec.eq_of_toNat_eq hesc
        form := by omega
        shortLength := by omega
        extLength := by omega
        length := by omega }
    · split
      · exact invalidLength_effect b _ s
      · next hmin =>
        exact .stored {
          buf := by rw [hoff]
          offset := by rw [hoff]
          table := (framerTable_awaitType rfl).mpr
            ⟨by simp [hext],
              by simpa [lengthValid_iff, hext, Config.minFrameLen, Config.maxShortLen] using And.intro hmin hmax⟩
          marker := by omega
          lengthByte := fun _ => by simp [hext]
          form := by omega
          shortLength := by omega
          extLength := by omega
          length := by omega }

theorem rxAwaitExtLen_effect {b : Byte} {s t : State} (hs : s.rxState = .awaitExtLen) (h : FramerTable s)
    (hrun : rxAwaitExtLen b s = .next t) : RxbEffect b s t := by
  obtain ⟨_, hext, hlen⟩ := (framerTable_awaitExtLen hs).mp h
  unfold rxAwaitExtLen at hrun
  split at hrun
  · next hoff =>
    obtain rfl := Host.Outcome.next.inj hrun
    exact .stored {
      buf := by rw [hoff]
      offset := by rw [hoff]
      table := (framerTable_awaitExtLen (by exact hs)).mpr ⟨.inr rfl, hext, hlen⟩
      marker := by omega
      lengthByte := by omega
      form := fun _ => rfl
      shortLength := fun _ _ => rfl
      extLength := by omega
      length := by omega }
  · split at hrun
    · next hoff =>
      split at hrun <;> obtain rfl := Host.Outcome.next.inj hrun
      · next hvalid =>
        exact .stored {
          buf := by rw [hoff]
          offset := by rw [hoff]
          table := (framerTable_awaitType rfl).mpr
            ⟨by simp [hext], by simpa [lengthValid_iff, hext] using (validExtLength_iff _).mp hvalid⟩
          marker := by omega
          lengthByte := by omega
          form := fun _ => rfl
          shortLength := fun _ hshort => by rw [hext] at hshort; cases hshort
          extLength := fun _ _ => rfl
          length := by omega }
      · exact invalidLength_effect b _ s
    · cases hrun

theorem rxFrameByte_effect {b : Byte} {s t : State} (hs : s.rxState = .awaitType ∨ s.rxState = .awaitPayload)
    (h : FramerTable s) (hrun : rxFrameByte b s = .next t) : RxbEffect b s t := by
  obtain ⟨hlen, hoff, hlt⟩ := framerTable_frameByte h hs
  rcases rxFrameByte_cases hrun with ⟨_, ⟨hlast, rfl⟩ | ⟨_, f, g, _, _, _, rfl⟩⟩
  · have hrow : (if s.rxExt then 5 else 3) ≤ s.rxOffset + 1 := by grind
    have hform : s.rxOffset = 3 → s.rxExt = false := fun h3 => by
      cases hext : s.rxExt with
      | false => rfl
      | true => rw [hext, if_pos rfl] at hoff; omega
    have htwo : 2 ≤ s.rxOffset := le_trans (by split <;> omega) hoff
    exact .stored {
      buf := rfl
      offset := rfl
      table := (framerTable_awaitPayload rfl).mpr ⟨hrow, Nat.lt_of_le_of_ne hlt hlast, hlen⟩
      marker := by omega
      lengthByte := by omega
      form := fun _ => rfl
      shortLength := fun _ _ => rfl
      extLength := fun h3 hext => by rw [hform h3] at hext; cases hext
      length := fun _ => rfl }
  · obtain ⟨hst, ho, hl, he, hb, _⟩ := dispatchFrame_keeps (classOfTag g) f
      (resetFramer { s with buf := Memory.write s.buf s.rxOffset b })
    exact .ended ⟨hst, ho, hl, he⟩ (.inr hb)

theorem execRxb_effect {b : Byte} {s t : State} (h : FramerTable s) (hrun : execRxb b s = .next t) :
    RxbEffect b s t := by
  unfold execRxb at hrun
  split at hrun
  · next hs => exact Host.Outcome.next.inj hrun ▸ rxAwaitStart_effect b hs h
  · next hs => exact Host.Outcome.next.inj hrun ▸ rxAwaitLength_effect b hs h
  · next hs => exact rxAwaitExtLen_effect hs h hrun
  · next hs => exact rxFrameByte_effect (.inl hs) h hrun
  · next hs => exact rxFrameByte_effect (.inr hs) h hrun

/-! ## The framer invariants are kept -/

theorem AtStart.framerTable {t : State} (h : AtStart t) : FramerTable t :=
  (framerTable_awaitStart h.state).mpr ⟨h.offset, h.ext, h.length⟩

theorem AtStart.markerAndLength {t : State} (h : AtStart t) : MarkerAndLength t :=
  ⟨fun h1 => by rw [h.offset] at h1; omega, fun h2 => by rw [h.offset] at h2; omega⟩

theorem AtStart.bufferHolds {t : State} (h : AtStart t) : BufferHolds t :=
  fun _ h4 => by rw [h.offset] at h4; omega

theorem Stores.markerAndLength {b : Byte} {s t : State} (h : Stores b s t) (hm : MarkerAndLength s) :
    MarkerAndLength t := by
  obtain ⟨hmarker, hlength⟩ := hm
  refine ⟨fun _ => ?_, fun h2 => ?_⟩
  · rw [h.buf, Memory.read_write]
    split
    · next h0 => exact h.marker h0
    · next h0 => exact hmarker (by omega)
  · rw [h.offset] at h2
    rw [h.buf, Memory.read_write]
    split
    · next h1 => exact h.lengthByte h1
    · next h1 =>
      have htwo : 2 ≤ s.rxOffset := by omega
      rw [hlength htwo, h.form htwo]
      cases hext : s.rxExt with
      | true => rfl
      | false => rw [h.shortLength htwo hext]

theorem Stores.bufferHolds {b : Byte} {s t : State} (h : Stores b s t) (hb : BufferHolds s) : BufferHolds t := by
  intro hext h4
  rw [h.offset] at h4
  rw [h.form (by omega)] at hext
  rw [h.buf, Memory.read_write_other _ _ (by omega : s.rxOffset ≠ 2), Memory.read_write]
  split
  · next h3 => exact (h.extLength h3 hext).symm
  · next h3 =>
    have hfour : 4 ≤ s.rxOffset := by omega
    rw [hb hext hfour, h.length hfour]

theorem RxbEffect.framerTable {b : Byte} {s t : State} (h : RxbEffect b s t) : FramerTable t := by
  cases h with
  | ended hstart _ => exact hstart.framerTable
  | stored h => exact h.table

theorem RxbEffect.markerAndLength {b : Byte} {s t : State} (h : RxbEffect b s t) (hm : MarkerAndLength s) :
    MarkerAndLength t := by
  cases h with
  | ended hstart _ => exact hstart.markerAndLength
  | stored h => exact h.markerAndLength hm

theorem RxbEffect.bufferHolds {b : Byte} {s t : State} (h : RxbEffect b s t) (hb : BufferHolds s) : BufferHolds t := by
  cases h with
  | ended hstart _ => exact hstart.bufferHolds
  | stored h => exact h.bufferHolds hb

/-- `RXB` writes at most one buffer byte, the one at `rx_offset` (20_memory.md R60). -/
theorem RxbEffect.buf {b : Byte} {s t : State} (h : RxbEffect b s t) :
    t.buf = s.buf ∨ t.buf = Memory.write s.buf s.rxOffset b := by
  cases h with
  | ended _ hbuf => exact hbuf
  | stored h => exact .inr h.buf

/-- What an event does to the framer: a received byte, nothing, or back to the start with the buffer kept or emptied. -/
inductive FramerEffect (s t : State) : Prop
  | byte (b : Byte) (hrun : execRxb b s = .next t)
  | kept (h : framerView t = framerView s)
  | restarted (hstart : AtStart t) (hbuf : t.buf = s.buf ∨ t.buf = [])

/-- No event but `RXB`, `RXERR` and `RESET` touches the framer (40_framer.md R130). -/
theorem exec_framerEffect {e : Event} {i : Instr} {s t : State} (hi : decodeEvent e = .ok i)
    (h : exec i s = .next t) : FramerEffect s t := by
  rcases decodeEvent_cases hi with ⟨v, d, rfl⟩ | ⟨b, rfl⟩ | ⟨d, rfl⟩ | ⟨r, hr, op, x, rfl⟩
  · obtain ⟨_, _, _, _, he⟩ := execRxerr_cases v d s
    obtain rfl := Host.Outcome.next.inj (he.symm.trans h)
    exact .restarted ⟨rfl, rfl, rfl, rfl⟩ (.inl rfl)
  · exact .byte b h
  · obtain ⟨_, _, _, _, he⟩ := execRxidle_cases d s
    obtain rfl := Host.Outcome.next.inj (he.symm.trans h)
    exact .kept rfl
  · rcases execHost_cases hr h with ⟨_, rfl⟩ | ⟨_, _, _, _, _, _, rfl⟩ | ⟨_, _, rfl⟩ | ⟨_, rfl⟩ | rfl
    · exact .kept rfl
    · exact .kept rfl
    · exact .kept rfl
    · exact .kept rfl
    · exact .restarted ⟨rfl, rfl, rfl, rfl⟩ (.inr rfl)

/-- The framer's predicates read the framer's registers and nothing else. -/
theorem framerInv_congr {s t : State} (h : framerView t = framerView s) :
    (FramerTable t ↔ FramerTable s) ∧ (MarkerAndLength t ↔ MarkerAndLength s) ∧ (BufferHolds t ↔ BufferHolds s) := by
  simp only [framerView, Prod.mk.injEq] at h
  obtain ⟨hst, hoff, hlen, hext, hbuf⟩ := h
  simp only [FramerTable, LengthValid, MarkerAndLength, BufferHolds, hst, hoff, hlen, hext, hbuf]
  trivial

theorem FramerEffect.framerTable {s t : State} (h : FramerEffect s t) (hs : FramerTable s) : FramerTable t := by
  cases h with
  | byte b hrun => exact (execRxb_effect hs hrun).framerTable
  | kept h => exact (framerInv_congr h).1.mpr hs
  | restarted hstart _ => exact hstart.framerTable

theorem FramerEffect.markerAndLength {s t : State} (h : FramerEffect s t) (hs : FramerTable s)
    (hm : MarkerAndLength s) : MarkerAndLength t := by
  cases h with
  | byte b hrun => exact (execRxb_effect hs hrun).markerAndLength hm
  | kept h => exact (framerInv_congr h).2.1.mpr hm
  | restarted hstart _ => exact hstart.markerAndLength

theorem FramerEffect.bufferHolds {s t : State} (h : FramerEffect s t) (hs : FramerTable s) (hb : BufferHolds s) :
    BufferHolds t := by
  cases h with
  | byte b hrun => exact (execRxb_effect hs hrun).bufferHolds hb
  | kept h => exact (framerInv_congr h).2.2.mpr hb
  | restarted hstart _ => exact hstart.bufferHolds

theorem FramerEffect.buffer_wf {s t : State} (h : FramerEffect s t) (hs : FramerTable s) (hw : Memory.wf s.buf) :
    Memory.wf t.buf := by
  cases h with
  | byte b hrun =>
    rcases (execRxb_effect hs hrun).buf with hbuf | hbuf <;> rw [hbuf]
    · exact hw
    · exact Memory.write_wf hw (rxOffset_lt_of_framerTable hs)
  | kept h =>
    have hbuf : t.buf = s.buf := congrArg (·.2.2.2.2) h
    rwa [hbuf]
  | restarted _ hbuf =>
    rcases hbuf with hbuf | hbuf <;> rw [hbuf]
    · exact hw
    · exact ⟨.nil, nofun⟩

theorem atStart_reset : AtStart State.reset :=
  ⟨rfl, rfl, rfl, rfl⟩

/-! ## Where `RXB` answers and where it stops -/

theorem execRxb_of_frameByte {s : State} (hs : s.rxState = .awaitType ∨ s.rxState = .awaitPayload) (b : Byte) :
    execRxb b s = rxFrameByte b s := by
  rcases hs with hs | hs <;> simp only [execRxb, hs]

theorem rxFrameByte_outside {s : State} (h : 65535 ≤ s.rxOffset) (b : Byte) :
    rxFrameByte b s = .fault .bufferBounds :=
  if_neg (Nat.not_lt.mpr h)

/-- The last byte delivers the bytes before it and itself, from the framer's start (40_framer.md R141). -/
theorem rxFrameByte_last {s : State} (hoff : s.rxOffset < 65535) (hlast : s.rxOffset + 1 = s.rxLength) (b : Byte) :
    rxFrameByte b s = receiveFrame (Memory.readRange s.buf 0 s.rxOffset ++ [b])
      (resetFramer { s with buf := Memory.write s.buf s.rxOffset b }) := by
  have hbytes : Memory.readRange (Memory.write s.buf s.rxOffset b) 0 s.rxLength
      = Memory.readRange s.buf 0 s.rxOffset ++ [b] := by
    rw [← hlast, Memory.readRange_write_snoc]
  rw [← hbytes]
  exact (if_pos hoff).trans (if_pos hlast)

/-- The bytes already stored stand in the completed frame at their own indices. -/
theorem completed_getElem? {s : State} (b : Byte) {i : Nat} (h : i < s.rxOffset) :
    (Memory.readRange s.buf 0 s.rxOffset ++ [b])[i]? = some (Memory.read s.buf i) := by
  rw [List.getElem?_append_left (by rwa [Memory.readRange_length]), Memory.readRange_getElem? _ _ h, Nat.zero_add]

section Completed

variable {s : State} (htable : FramerTable s) (hbytes : MarkerAndLength s)
  (hs : s.rxState = .awaitType ∨ s.rxState = .awaitPayload) (b : Byte)

include htable hs in
theorem two_le_rxOffset : 2 ≤ s.rxOffset := by
  obtain ⟨_, hoff, _⟩ := framerTable_frameByte htable hs
  split at hoff <;> omega

include htable hbytes hs

theorem completed_marker :
    (Memory.readRange s.buf 0 s.rxOffset ++ [b])[0]? = some Config.startMarker := by
  have htwo := two_le_rxOffset htable hs
  rw [completed_getElem? b (by omega), hbytes.1 (by omega)]

/-- The second byte tells the form that `rx_ext` holds: a valid short length is never `EXT_LEN_ESCAPE`. -/
theorem completed_isExtended : isExtended (Memory.readRange s.buf 0 s.rxOffset ++ [b]) = s.rxExt := by
  have htwo := two_le_rxOffset htable hs
  obtain ⟨hlen, _, _⟩ := framerTable_frameByte htable hs
  rw [lengthValid_iff] at hlen
  rw [isExtended, completed_getElem? b (by omega), hbytes.2 htwo]
  cases hext : s.rxExt with
  | true => rfl
  | false =>
    rw [hext, if_neg Bool.false_ne_true] at hlen
    have hne : s.rxLength % 256 ≠ 0 := by omega
    simpa [Config.extLenEscape] using hne

theorem completed_frameTag : ∃ g, frameTag (Memory.readRange s.buf 0 s.rxOffset ++ [b]) = some g := by
  obtain ⟨_, hoff, _⟩ := framerTable_frameByte htable hs
  have hlt : headerLength (Memory.readRange s.buf 0 s.rxOffset ++ [b]) - 1
      < (Memory.readRange s.buf 0 s.rxOffset ++ [b]).length := by
    rw [headerLength, completed_isExtended htable hbytes hs, List.length_append, Memory.readRange_length,
      List.length_singleton]
    grind
  exact ⟨_, List.getElem?_eq_getElem hlt⟩

end Completed

/-- Where the table, the marker and the length byte of R26 hold, `RXB` of every byte answers a next state. -/
theorem execRxb_answers {s : State} (htable : FramerTable s) (hbytes : MarkerAndLength s) (b : Byte) :
    ∃ t, execRxb b s = .next t := by
  have frameByte (hs : s.rxState = .awaitType ∨ s.rxState = .awaitPayload) : ∃ t, execRxb b s = .next t := by
    rw [execRxb_of_frameByte hs]
    have hoff := rxOffset_lt_of_framerTable htable
    by_cases hlast : s.rxOffset + 1 = s.rxLength
    · obtain ⟨g, hg⟩ := completed_frameTag htable hbytes hs b
      rw [rxFrameByte_last hoff hlast, receiveFrame_of_tag (completed_marker htable hbytes hs b) hg]
      exact ⟨_, rfl⟩
    · exact ⟨_, (if_pos hoff).trans (if_neg hlast)⟩
  cases hs : s.rxState with
  | awaitStart => exact ⟨rxAwaitStart b s, by simp only [execRxb, hs]⟩
  | awaitLength => exact ⟨rxAwaitLength b s, by simp only [execRxb, hs]⟩
  | awaitExtLen =>
    obtain ⟨hoff, _, _⟩ := (framerTable_awaitExtLen hs).mp htable
    simp only [execRxb, hs, rxAwaitExtLen]
    split
    · exact ⟨_, rfl⟩
    · next h2 =>
      rw [if_pos (hoff.resolve_left h2)]
      split <;> exact ⟨_, rfl⟩
  | awaitType => exact frameByte (.inl hs)
  | awaitPayload => exact frameByte (.inr hs)

theorem execRxb_noFramerRule {s : State} (hs : s.rxState = .awaitExtLen) (h2 : s.rxOffset ≠ 2) (h3 : s.rxOffset ≠ 3)
    (b : Byte) : execRxb b s = .fault .noFramerRule := by
  simp only [execRxb, hs, rxAwaitExtLen, if_neg h2, if_neg h3]

/-! ## The statements about the framer -/

/-- Settles O29: the table carries the induction, the marker and the length byte follow the stored byte. -/
theorem framerInvariantsHold : Obligations.FramerInvariantsHold := by
  unfold Obligations.FramerInvariantsHold
  refine ⟨⟨atStart_reset.framerTable, atStart_reset.markerAndLength⟩, fun s t htable hmarker h => ?_⟩
  refine step_keeps (P := fun s => FramerTable s ∧ MarkerAndLength s) (fun _ _ hs => hs) ?_ ⟨htable, hmarker⟩ h
  intro e i s t hi ⟨htable, hmarker⟩ hrun
  have heffect := exec_framerEffect hi hrun
  exact ⟨heffect.framerTable htable, heffect.markerAndLength htable hmarker⟩

/-- Settles O43, from the buffer that `RXB` leaves and the range of `rx_offset`. -/
theorem bufferByteWriters : Obligations.BufferByteWriters := by
  unfold Obligations.BufferByteWriters
  intro b s t ⟨htable, _, _⟩ hrun
  rcases (execRxb_effect htable hrun).buf with hbuf | hbuf <;> rw [hbuf]
  · exact ⟨fun _ _ => rfl, rxOffset_lt_of_framerTable htable, .inl rfl⟩
  · exact ⟨fun a ha => Memory.read_write_other _ _ ha.symm, rxOffset_lt_of_framerTable htable,
      .inr (congrArg some (Memory.read_write_same ..))⟩

/-- Settles O8: the buffer after reset lists nothing, and an unlisted byte reads as zero (the model's choice, log 1). -/
theorem bufferReadsZeroAfterReset : Obligations.BufferReadsZeroAfterReset := by
  unfold Obligations.BufferReadsZeroAfterReset
  exact ⟨fun _ => rfl, fun s => ⟨_, rfl, fun _ => rfl⟩⟩

/-- Settles O15: a completed frame has its marker and its tag where R26 holds, and the three stops are read off the
rules (the model's choice, log 5). -/
theorem rxbStopsOnlyOffTheFramerInvariants : Obligations.RxbStopsOnlyOffTheFramerInvariants := by
  unfold Obligations.RxbStopsOnlyOffTheFramerInvariants
  refine fun b s => ⟨fun htable hbytes => execRxb_answers htable hbytes b,
    fun hs h2 h3 => execRxb_noFramerRule hs h2 h3 b, fun hs => ⟨fun hoff => ?_, fun hoff hlast e he => ?_⟩⟩
  · exact (execRxb_of_frameByte hs b).trans (rxFrameByte_outside hoff b)
  · have he : decodeReceived (Memory.readRange s.buf 0 s.rxOffset ++ [b]) = .error e := he
    calc exec (.rxb b) s = rxFrameByte b s := execRxb_of_frameByte hs b
      _ = receiveFrame (Memory.readRange s.buf 0 s.rxOffset ++ [b]) _ := rxFrameByte_last hoff hlast b
      _ = .fault (.noFrame e) := by rw [receiveFrame, he]

end Sys2Proof.Proofs

/-! Proofs of the statements on 10_state.md, the registers of the codec and the BER bank: who writes each of them, and
the invariants of the whole block. -/

namespace Sys2Proof.Proofs

open Sys2Proof.Machine Sys2Proof.Safety

/-! ## Everything an instruction can do beside the framer -/

/-- The state with other framer registers and another buffer: what `framerView` reads, replaced. -/
def withFramer (v : RxState × Nat × Nat × Bool × List Host.Cell) (s : State) : State :=
  { s with rxState := v.1, rxOffset := v.2.1, rxLength := v.2.2.1, rxExt := v.2.2.2.1, buf := v.2.2.2.2 }

theorem withFramer_framerView (s : State) : withFramer (framerView s) s = s :=
  rfl

theorem framerView_withFramer (v : RxState × Nat × Nat × Bool × List Host.Cell) (s : State) :
    framerView (withFramer v s) = v :=
  rfl

/-- The rows of the sent frames that arm the tracker without the tests of the host commands (the model's choice, log 11).
No event decodes to one. -/
def ArmsUntested : Instr → Prop
  | .txSetConfigV1 _ | .txSetConfigV2 _ | .txSetFreq _ _ => True
  | _ => False

theorem not_armsUntested_of_decodeEvent {e : Event} {i : Instr} (h : decodeEvent e = .ok i) : ¬ ArmsUntested i := by
  rcases decodeEvent_cases h with ⟨_, _, rfl⟩ | ⟨_, rfl⟩ | ⟨_, rfl⟩ | ⟨r, hr, _, _, rfl⟩
  · exact id
  · exact id
  · exact id
  · fin_cases hr <;> exact id

/-- The next states of an instruction, with the framer's registers left open: a report, a command sent, a tick, a reset,
the end of a poll without a frame, a delivery. -/
inductive Transition (s : State) : Instr → State → Prop
  | reported {i : Instr} (v) (o : Output) (hcls : o.cls = none) (hlink : o.link = .none) :
      Transition s i (report o (withFramer v s))
  | sentConfig {i : Instr} (l : Layout) (c : Cfg) (htests : ¬ ArmsUntested i → s.ackWait = .idle ∧ c.valid) :
      Transition s i (sendConfig l c s)
  | sentFreq {i : Instr} (f : List Byte) (htests : ¬ ArmsUntested i → s.ackWait = .idle) :
      Transition s i (armTracker .waitFreq (sendFrame f s))
  | ticked : Transition s .clock (report { report := clockReports s.ber } { s with ber := mapBanks s.ber bankTick })
  | reset : Transition s .reset { State.reset with pending := s.pending }
  | polled {i : Instr} (v) (o : Output) (hcls : o.cls = none) : Transition s i (track (report o (withFramer v s)))
  | delivered {i : Instr} (v) (c : FrameClass) (f : List Byte) : Transition s i (dispatchFrame c f (withFramer v s))

/-- A report that leaves the framer alone too. -/
theorem Transition.reports {s : State} {i : Instr} (o : Output) (hcls : o.cls = none) (hlink : o.link = .none) :
    Transition s i (report o s) :=
  .reported (framerView s) o hcls hlink

theorem execRxb_transition {b : Byte} {s t : State} (h : execRxb b s = .next t) : Transition s (.rxb b) t := by
  rcases execRxb_cases h with
    ⟨_, _, rfl⟩ | ⟨a, st, off, len, ext, rfl⟩ | ⟨v, _, rfl⟩ | ⟨f, g, _, _, _, _, _, _, rfl⟩
  · exact .reports {} rfl rfl
  · exact .reported (st, off, len, ext, Memory.write s.buf a b) {} rfl rfl
  · exact .polled (.awaitStart, 0, 0, false, s.buf) _ rfl
  · exact .delivered (.awaitStart, 0, 0, false, Memory.write s.buf s.rxOffset b) _ f

theorem execCmdSetConfig_transition {c : Cfg} {s t : State} (h : execCmdSetConfig c s = .next t) :
    Transition s (.cmdSetConfig c) t := by
  unfold execCmdSetConfig at h
  split at h
  · exact Host.Outcome.next.inj h ▸ .reports _ rfl rfl
  · next hidle =>
    have hidle : s.ackWait = .idle := by simpa [awaiting] using hidle
    split at h
    · exact Host.Outcome.next.inj h ▸ .reports _ rfl rfl
    · split at h
      · next hc =>
        split at h <;> exact Host.Outcome.next.inj h ▸ .sentConfig _ c (fun _ => ⟨hidle, hc⟩)
      · exact Host.Outcome.next.inj h ▸ .reports _ rfl rfl

theorem execCmdSetFreq_transition {f : BitVec 32} {p : Byte} {s t : State} (h : execCmdSetFreq f p s = .next t) :
    Transition s (.cmdSetFreq f p) t := by
  unfold execCmdSetFreq at h
  split at h
  · exact Host.Outcome.next.inj h ▸ .reports _ rfl rfl
  · next hidle =>
    exact Host.Outcome.next.inj h ▸ .sentFreq _ (fun _ => by simpa [awaiting] using hidle)

theorem execBerRead_transition {n : BitVec 3} {s t : State} (h : execBerRead n s = .next t) :
    Transition s (.berRead n) t := by
  unfold execBerRead at h
  split at h <;> exact Host.Outcome.next.inj h ▸ .reports _ rfl rfl

/-- The rows not named in the cases below are those of the received frames. -/
theorem exec_transition {i : Instr} {s t : State} (h : exec i s = .next t) : Transition s i t := by
  cases i with
  | rxerr => exact Host.Outcome.next.inj h ▸ .polled (.awaitStart, 0, 0, false, s.buf) _ rfl
  | rxb => exact execRxb_transition h
  | rxidle => exact Host.Outcome.next.inj h ▸ .polled (framerView s) _ rfl
  | cmdSetConfig => exact execCmdSetConfig_transition h
  | cmdSetFreq => exact execCmdSetFreq_transition h
  | clock => exact Host.Outcome.next.inj h ▸ .ticked
  | berRead => exact execBerRead_transition h
  | reset => exact Host.Outcome.next.inj h ▸ .reset
  | txSetConfigV1 | txSetConfigV2 =>
    exact Host.Outcome.next.inj h ▸ .sentConfig _ _ (fun hi => absurd trivial hi)
  | txSetFreq => exact Host.Outcome.next.inj h ▸ .sentFreq _ (fun hi => absurd trivial hi)
  | cmdGetVersion | cmdGetStatus | txGetVersion | txGetStatus | reserved0303 | reserved0505 | reserved0607
  | reserved080F | reserved101F | reserved203F | reserved407F | reserved80BF | reservedC2C3 | reservedC4C7
  | reservedC8CB | reservedCCCD | reservedCECE | reservedD0DF | reservedE0FF =>
    exact Host.Outcome.next.inj h ▸ .reports _ rfl rfl
  | _ => exact Host.Outcome.next.inj h ▸ .delivered (framerView s) _ _

/-- The class that a delivery reports is the one it dispatches with. -/
theorem dispatchFrame_cls (c : FrameClass) (f : List Byte) (s : State) : (dispatchFrame c f s).out.cls = some c := by
  obtain ⟨_, _, hcls, _⟩ := dispatchFrame_out c f s
  exact hcls

/-! ## The committed configuration -/

/-- The tracker writes `cfg_committed` only for the ACK of an awaited configuration (41_codec.md R193). -/
theorem track_cfgCommitted (s : State) :
    (track s).cfgCommitted = s.cfgCommitted ∨
    (s.ackWait = .waitConfig ∧ s.out.cls = some .ack ∧ (track s).cfgCommitted = s.cfgPending ∧
      (track s).out.link = .acked) := by
  rcases track_cases s with ⟨_, h⟩ | ⟨_, _, ⟨hc, h⟩ | ⟨_, _, _, h⟩ | ⟨_, _, h⟩ | ⟨_, _, h⟩⟩ <;> rw [h]
  · exact .inl rfl
  · by_cases hw : s.ackWait = .waitConfig
    · exact .inr ⟨hw, hc, by simp [hw], rfl⟩
    · exact .inl (by simp [hw])
  · exact .inl rfl
  · exact .inl rfl
  · exact .inl rfl

theorem dispatchFrame_cfgCommitted (c : FrameClass) (f : List Byte) (s : State) :
    (dispatchFrame c f s).cfgCommitted = s.cfgCommitted ∨
    (s.ackWait = .waitConfig ∧ c = .ack ∧ (dispatchFrame c f s).cfgCommitted = s.cfgPending ∧
      (dispatchFrame c f s).out.link = .acked) := by
  have ack {o : Output} (ho : o.cls = some c) (h : o.cls = some .ack) : c = .ack := Option.some.inj (ho.symm.trans h)
  rw [dispatchFrame_eq]
  split
  · rw [berDispatch_keeps]
    exact (track_cfgCommitted (deliver f c s)).imp_right (.imp_right (.imp_left (ack rfl)))
  · split
    · have h := track_cfgCommitted (decodeVersion f (deliver f c s))
      rw [decodeVersion_keeps] at h ⊢
      exact h.imp_right (.imp_right (.imp_left (ack rfl)))
    · exact (track_cfgCommitted (deliver f c s)).imp_right (.imp_right (.imp_left (ack rfl)))

/-- Settles O40: of all transitions only a reset and the delivery of an awaited ACK write `cfg_committed`, and the ACK
reports `ACKED`. -/
theorem committedConfigurationWriters : Obligations.CommittedConfigurationWriters := by
  unfold Obligations.CommittedConfigurationWriters
  intro i s t h
  cases exec_transition h with
  | reported | sentConfig | sentFreq | ticked => exact ⟨.inl rfl, fun _ => rfl⟩
  | reset => exact ⟨.inr (.inl ⟨rfl, rfl⟩), nofun⟩
  | polled v o hcls =>
    rcases track_cfgCommitted (report o (withFramer v s)) with hkept | ⟨_, hack, _, _⟩
    · exact ⟨.inl hkept, fun _ => hkept⟩
    · cases hcls.symm.trans hack
  | delivered v c f =>
    rcases dispatchFrame_cfgCommitted c f (withFramer v s) with hkept | ⟨hwait, rfl, hcommit, hlink⟩
    · exact ⟨.inl hkept, fun _ => hkept⟩
    · refine ⟨.inr (.inr ⟨hwait, hcommit, hlink, dispatchFrame_cls _ f _⟩), ?_⟩
      rw [hlink]
      exact nofun

/-! ## The banks and the overflow flag -/

theorem wouldOverflow_eq_false_iff (b : BerBank) (errs nbits : Nat) :
    wouldOverflow b errs nbits = false ↔
      b.errors + errs ≤ Config.cntMax ∧ b.bits + nbits ≤ Config.cntMax ∧ b.frames + 1 ≤ Config.cntMax := by
  simp [wouldOverflow, and_assoc]

/-- A block has no more mismatches than check bits (42_fec_ber.md R224). -/
theorem blockErrors_le (q : List Byte) (b : Block) : blockErrors q b ≤ b.check.length := by
  refine List.countP_le_length.trans ?_
  rw [List.length_zipWith, packedBits, packedBits, List.length_map]
  exact Nat.min_le_right _ _

/-- A scored frame of an admissible checker has bits, and no more errors than bits (42_fec_ber.md R223, R224). -/
theorem checkFrame_bounds {d : CheckerDesc} {st errs nbits : Nat} {p : List Byte} (hd : d.Admissible)
    (h : checkFrame d st p = some (errs, nbits)) : errs ≤ nbits ∧ 1 ≤ nbits := by
  unfold checkFrame at h
  split at h
  · next hscore =>
    obtain ⟨rfl, rfl⟩ := Prod.mk.inj (Option.some.inj h)
    exact ⟨(List.sum_le_sum fun b _ => blockErrors_le _ b).trans (hd.enough_bits st p hscore), hd.some_bits st⟩
  · cases h

/-- The bank dispatch changes nothing, reports an overflow, or adds a score that fits to one bank
(42_fec_ber.md R233, R234, R239). -/
theorem berDispatch_effects (f : List Byte) (s : State) :
    berDispatch f s = s ∨ (∃ id, berDispatch f s = overflow id s) ∨
    ∃ id errs nbits, errs ≤ nbits ∧ 1 ≤ nbits ∧ wouldOverflow (bankOf s.ber id) errs nbits = false ∧
      berDispatch f s = { s with ber := setBank s.ber id (bankAdd (bankOf s.ber id) errs nbits) } := by
  rcases berDispatch_cases f s with h | ⟨id, errs, nbits, hscore, h⟩
  · exact .inl h
  · obtain ⟨_, _, _, hcheck⟩ := scoreFrame_some hscore
    obtain ⟨hle, hpos⟩ := checkFrame_bounds (Config.openParams.checkerDesc_admissible id) hcheck
    rcases accumulate_cases id errs nbits s with ⟨_, ha⟩ | ⟨hfits, ha⟩
    · exact .inr (.inl ⟨id, h.trans ha⟩)
    · exact .inr (.inr ⟨id, errs, nbits, hle, hpos, hfits, h.trans ha⟩)

@[simp] theorem track_ber (s : State) : (track s).ber = s.ber := by
  rw [track_keeps]

@[simp] theorem track_faultOvf (s : State) : (track s).faultOvf = s.faultOvf := by
  rw [track_keeps]

/-- A delivery of any class but codec data leaves the banks and the overflow flag alone. -/
theorem dispatchFrame_ber_of_ne {c : FrameClass} (hc : c ≠ .codecData) (f : List Byte) (s : State) :
    (dispatchFrame c f s).ber = s.ber ∧ (dispatchFrame c f s).faultOvf = s.faultOvf := by
  rw [dispatchFrame_eq, if_neg hc, track_ber, track_faultOvf]
  split
  · rw [decodeVersion_keeps]
    exact ⟨rfl, rfl⟩
  · exact ⟨rfl, rfl⟩

/-- What a delivery does to the banks and the overflow flag: nothing, an overflow of codec data that touches no bank, or
one score that fits added to its bank. -/
theorem dispatchFrame_ber_cases (c : FrameClass) (f : List Byte) (s : State) :
    ((dispatchFrame c f s).ber = s.ber ∧ (dispatchFrame c f s).faultOvf = s.faultOvf) ∨
    (c = .codecData ∧ (dispatchFrame c f s).ber = s.ber ∧ (dispatchFrame c f s).faultOvf = true ∧
      (dispatchFrame c f s).out.cause = .counterOverflow) ∨
    (c = .codecData ∧ (dispatchFrame c f s).faultOvf = s.faultOvf ∧
      ∃ id errs nbits, errs ≤ nbits ∧ 1 ≤ nbits ∧ wouldOverflow (bankOf s.ber id) errs nbits = false ∧
        (dispatchFrame c f s).ber = setBank s.ber id (bankAdd (bankOf s.ber id) errs nbits)) := by
  by_cases hc : c = .codecData
  · rw [dispatchFrame_eq, if_pos hc]
    have hber : (track (deliver f c s)).ber = s.ber := track_ber _
    have hovf : (track (deliver f c s)).faultOvf = s.faultOvf := track_faultOvf _
    rcases berDispatch_effects f (track (deliver f c s)) with h | ⟨id, h⟩ | ⟨id, errs, nbits, hle, hpos, hfits, h⟩
    · rw [h]
      exact .inl ⟨hber, hovf⟩
    · rw [h]
      exact .inr (.inl ⟨hc, hber, rfl, rfl⟩)
    · rw [hber] at hfits h
      rw [h]
      exact .inr (.inr ⟨hc, hovf, id, errs, nbits, hle, hpos, hfits, rfl⟩)
  · exact .inl (dispatchFrame_ber_of_ne hc f s)

/-- Settles O44: of all transitions only a tick, a reset and a delivery of codec data touch a bank, and the delivery
touches one. -/
theorem bankWriters : Obligations.BankWriters := by
  unfold Obligations.BankWriters
  intro i s t h
  cases exec_transition h with
  | reported | sentConfig | sentFreq => exact .inl rfl
  | ticked => exact .inr (.inl rfl)
  | reset => exact .inr (.inr (.inl rfl))
  | polled => exact .inl (track_ber _)
  | delivered v c f =>
    rcases dispatchFrame_ber_cases c f (withFramer v s) with
      ⟨hber, _⟩ | ⟨_, hber, _, _⟩ | ⟨rfl, _, id, errs, nbits, _, _, _, hber⟩
    · exact .inl hber
    · exact .inl hber
    · refine .inr (.inr (.inr ⟨dispatchFrame_cls _ f _, id, fun j hj => ?_, ?_⟩)) <;> rw [hber]
      · exact bankOf_setBank_other _ _ hj.symm
      · rw [bankOf_setBank_same]
        exact ⟨rfl, Nat.le_add_right _ _, Nat.le_add_right _ _, rfl, rfl⟩

/-- Settles O45: of all transitions only a reset and an overflow write the flag. -/
theorem overflowFlagIsSticky : Obligations.OverflowFlagIsSticky := by
  unfold Obligations.OverflowFlagIsSticky
  intro i s t h
  have kept (ht : t.faultOvf = s.faultOvf) : (s.faultOvf = true → i ≠ .reset → t.faultOvf = true) ∧
      (s.faultOvf = false → t.faultOvf = true →
        t.out.cause = .counterOverflow ∧ t.out.cls = some .codecData ∧ t.ber = s.ber) :=
    ⟨fun hs _ => ht.trans hs, fun hs htrue => by rw [ht, hs] at htrue; cases htrue⟩
  cases exec_transition h with
  | reported | sentConfig | sentFreq | ticked => exact kept rfl
  | reset => exact ⟨fun _ hi => absurd rfl hi, fun _ => nofun⟩
  | polled => exact kept (track_faultOvf _)
  | delivered v c f =>
    rcases dispatchFrame_ber_cases c f (withFramer v s) with ⟨_, hovf⟩ | ⟨rfl, hber, hovf, hcause⟩ | ⟨_, hovf, _⟩
    · exact kept hovf
    · exact ⟨fun _ _ => hovf, fun _ _ => ⟨hcause, dispatchFrame_cls _ f _, hber⟩⟩
    · exact kept hovf

/-! ## The version registers -/

/-- A delivery writes the version registers only for a version response that decodes, and reports no cause then
(41_codec.md R186). -/
theorem dispatchFrame_version_cases (c : FrameClass) (f : List Byte) (s : State) :
    ((dispatchFrame c f s).protoVersion = s.protoVersion ∧ (dispatchFrame c f s).hwType = s.hwType) ∨
    (c = .version ∧ (dispatchFrame c f s).out.cause = .none ∧
      ∃ v h, (dispatchFrame c f s).protoVersion = some v ∧ (dispatchFrame c f s).hwType = some h) := by
  rw [dispatchFrame_eq]
  split
  · rw [berDispatch_keeps, track_keeps]
    exact .inl ⟨rfl, rfl⟩
  · rw [track_keeps]
    split
    · next hc =>
      rcases decodeVersion_cases f (deliver f c s) with ⟨_, _, _, _, h⟩ | ⟨v, k, h⟩ <;> rw [h]
      · exact .inl ⟨rfl, rfl⟩
      · exact .inr ⟨hc, rfl, v, k, rfl, rfl⟩
    · exact .inl ⟨rfl, rfl⟩

/-- A version response leaves the committed configuration, the banks and the overflow flag alone (41_codec.md R188). -/
theorem dispatchFrame_version_keeps (f : List Byte) (s : State) :
    (dispatchFrame .version f s).cfgCommitted = s.cfgCommitted ∧ (dispatchFrame .version f s).ber = s.ber ∧
    (dispatchFrame .version f s).faultOvf = s.faultOvf :=
  ⟨(dispatchFrame_cfgCommitted .version f s).resolve_right (fun h => nomatch h.2.1),
    dispatchFrame_ber_of_ne (c := .version) nofun f s⟩

/-- Settles O41: of all transitions only a reset and the delivery of a version response that decodes write the version
registers, and only a delivery has a class. -/
theorem versionRegisterWriters : Obligations.VersionRegisterWriters := by
  unfold Obligations.VersionRegisterWriters
  intro i s t h
  cases exec_transition h with
  | reported v o hcls => exact ⟨.inl ⟨rfl, rfl⟩, fun hc => nomatch hcls.symm.trans hc⟩
  | sentConfig | sentFreq | ticked => exact ⟨.inl ⟨rfl, rfl⟩, nofun⟩
  | reset => exact ⟨.inr (.inl ⟨rfl, rfl, rfl⟩), nofun⟩
  | polled v o hcls =>
    rw [track_keeps]
    exact ⟨.inl ⟨rfl, rfl⟩, fun hc => nomatch hcls.symm.trans hc⟩
  | delivered v c f =>
    have hcls : (dispatchFrame c f (withFramer v s)).out.cls = some c := dispatchFrame_cls c f _
    refine ⟨?_, fun hc => ?_⟩
    · rcases dispatchFrame_version_cases c f (withFramer v s) with hkept | ⟨rfl, hcause, _, _, hproto, hhw⟩
      · exact .inl hkept
      · exact .inr (.inr ⟨hcls, hcause, by rw [hproto]; rfl, by rw [hhw]; rfl⟩)
    · obtain rfl : c = .version := Option.some.inj (hcls.symm.trans hc)
      exact dispatchFrame_version_keeps f (withFramer v s)

/-! ## Invariants of a single bank -/

theorem bankTick_cases (b : BerBank) :
    (b.running = false ∧ bankTick b = b) ∨ (b.running = true ∧ b.timer = 1 ∧ bankTick b = {}) ∨
    (b.running = true ∧ b.timer ≠ 1 ∧ bankTick b = { b with timer := b.timer - 1 }) := by
  cases hr : b.running with
  | false => exact .inl ⟨rfl, by simp [bankTick, hr]⟩
  | true =>
    by_cases ht : b.timer = 1
    · exact .inr (.inl ⟨rfl, ht, by simp [bankTick, hr, ht]⟩)
    · exact .inr (.inr ⟨rfl, ht, by simp [bankTick, hr, ht]⟩)

/-- A predicate of a bank that the cleared bank has and that a tick and an added score keep. -/
structure BankInvariant (P : BerBank → Prop) : Prop where
  cleared : P {}
  tick : ∀ b, P b → P (bankTick b)
  add : ∀ b errs nbits, P b → errs ≤ nbits → 1 ≤ nbits → wouldOverflow b errs nbits = false → P (bankAdd b errs nbits)

theorem BankInvariant.reset {P : BerBank → Prop} (hP : BankInvariant P) (id : CheckerId) :
    P (bankOf State.reset.ber id) := by
  cases id <;> exact hP.cleared

/-- Every instruction keeps such a predicate at all six banks. -/
theorem BankInvariant.transition {P : BerBank → Prop} (hP : BankInvariant P) {i : Instr} {s t : State}
    (hs : ∀ id, P (bankOf s.ber id)) (h : Transition s i t) (id : CheckerId) : P (bankOf t.ber id) := by
  cases h with
  | reported | sentConfig | sentFreq => exact hs id
  | ticked =>
    rw [report_ber, bankOf_mapBanks]
    exact hP.tick _ (hs id)
  | reset => exact hP.reset id
  | polled =>
    rw [track_ber]
    exact hs id
  | delivered v c f =>
    rcases dispatchFrame_ber_cases c f (withFramer v s) with
      ⟨hber, _⟩ | ⟨_, hber, _, _⟩ | ⟨_, _, k, errs, nbits, hle, hpos, hfits, hber⟩ <;> rw [hber]
    · exact hs id
    · exact hs id
    · by_cases hk : k = id
      · subst hk
        rw [bankOf_setBank_same]
        exact hP.add _ errs nbits (hs k) hle hpos hfits
      · rw [bankOf_setBank_other _ _ hk]
        exact hs id

theorem bankRanges_bankInvariant : BankInvariant BankRanges where
  cleared := by simp [BankRanges]
  tick := by
    intro b h
    obtain ⟨hbits, herrors, hframes, htimer, hstopped, hrunning⟩ := id h
    rcases bankTick_cases b with ⟨_, ht⟩ | ⟨_, _, ht⟩ | ⟨hr, h1, ht⟩ <;> rw [ht]
    · exact h
    · simp [BankRanges]
    · have hpos := hrunning hr
      have hrunning : b.running ≠ false := by rw [hr]; exact nofun
      refine ⟨hbits, herrors, hframes, (Nat.sub_le _ _).trans htimer, fun hf => absurd hf hrunning, fun _ => ?_⟩
      show 1 ≤ b.timer - 1
      omega
  add := by
    intro b errs nbits _ _ _ hfits
    obtain ⟨herrors, hbits, hframes⟩ := (wouldOverflow_eq_false_iff b errs nbits).mp hfits
    exact ⟨hbits, herrors, hframes, le_rfl, nofun, fun _ => Config.openParams.berTimeoutTicks_pos⟩

theorem bankCounts_bankInvariant : BankInvariant BankCounts where
  cleared := by simp [BankCounts]
  tick := by
    intro b h
    rcases bankTick_cases b with ⟨_, ht⟩ | ⟨_, _, ht⟩ | ⟨_, _, ht⟩ <;> rw [ht]
    · exact h
    · simp [BankCounts]
    · exact h
  add := by
    intro b errs nbits ⟨herrors, _, _⟩ hle hpos _
    exact ⟨Nat.add_le_add herrors hle, nofun, fun _ => ⟨hpos.trans (Nat.le_add_left _ _), Nat.le_add_left _ _⟩⟩

/-- Settles O34: the ranges are an invariant of each bank by itself. -/
theorem bankRangesHold : Obligations.BankRangesHold := by
  unfold Obligations.BankRangesHold
  refine ⟨bankRanges_bankInvariant.reset, fun s t hs h => ?_⟩
  exact step_keeps (P := fun s => ∀ id, BankRanges (bankOf s.ber id)) (fun _ _ hs => hs)
    (fun _ _ _ _ _ hs hrun => bankRanges_bankInvariant.transition hs (exec_transition hrun)) hs h

/-! ## The tracker, configuration and version invariants -/

theorem ackMaxTries_pos : 0 < Config.ackMaxTries := by
  decide

theorem track_trackerInv {s : State} (h : TrackerInv s) : TrackerInv (track s) := by
  obtain ⟨_, hfreq, htries⟩ := id h
  rcases track_cases s with ⟨_, ht⟩ | ⟨hwait, _, ⟨_, ht⟩ | ⟨_, _, _, ht⟩ | ⟨_, _, ht⟩ | ⟨_, hmax, ht⟩⟩ <;> rw [ht]
  · exact h
  · have hpending : s.cfgPending = if s.ackWait = .waitConfig then s.cfgPending else s.cfgCommitted := by
      cases hw : s.ackWait with
      | idle => exact absurd hw hwait
      | waitConfig => rfl
      | waitFreq => exact hfreq hw
    exact ⟨fun _ => ⟨rfl, hpending⟩, nofun, ackMaxTries_pos⟩
  · exact ⟨fun _ => ⟨rfl, rfl⟩, nofun, ackMaxTries_pos⟩
  · exact ⟨fun _ => ⟨rfl, rfl⟩, nofun, ackMaxTries_pos⟩
  · exact ⟨fun hi => absurd hi hwait, hfreq, Nat.lt_of_le_of_ne htries hmax⟩

theorem track_cfgInv {s : State} (h : CfgInv s) : CfgInv (track s) := by
  obtain ⟨hcommitted, hpending⟩ := id h
  rcases track_cases s with ⟨_, ht⟩ | ⟨_, _, ⟨_, ht⟩ | ⟨_, _, _, ht⟩ | ⟨_, _, ht⟩ | ⟨_, _, ht⟩⟩ <;> rw [ht]
  · exact h
  · refine ⟨?_, hpending⟩
    rw [acked_cfgCommitted]
    split
    · exact hpending
    · exact hcommitted
  · exact ⟨hcommitted, hcommitted⟩
  · exact ⟨hcommitted, hcommitted⟩
  · exact h

/-- A predicate of the configuration registers and the tracker's registers that the tracker keeps is kept by a
delivery: the version decoder and the bank dispatch write none of them. -/
theorem dispatchFrame_tracker_keeps {P : State → Prop} (hP : ∀ s, P s → P (track s))
    (hregs : ∀ s t : State, t.cfgCommitted = s.cfgCommitted → t.cfgPending = s.cfgPending → t.ackWait = s.ackWait →
      t.ackTries = s.ackTries → P s → P t)
    (c : FrameClass) (f : List Byte) {s : State} (hs : P s) : P (dispatchFrame c f s) := by
  have hdeliver : P (deliver f c s) := hregs s _ rfl rfl rfl rfl hs
  rw [dispatchFrame_eq]
  split
  · rw [berDispatch_keeps]
    exact hregs (track (deliver f c s)) _ rfl rfl rfl rfl (hP _ hdeliver)
  · split
    · rw [decodeVersion_keeps]
      exact hP _ (hregs (deliver f c s) _ rfl rfl rfl rfl hdeliver)
    · exact hP _ hdeliver

theorem trackerInv_of_registers {s t : State} (hc : t.cfgCommitted = s.cfgCommitted) (hp : t.cfgPending = s.cfgPending)
    (hw : t.ackWait = s.ackWait) (hn : t.ackTries = s.ackTries) (h : TrackerInv s) : TrackerInv t := by
  unfold TrackerInv
  rwa [hc, hp, hw, hn]

theorem cfgInv_of_registers {s t : State} (hc : t.cfgCommitted = s.cfgCommitted) (hp : t.cfgPending = s.cfgPending)
    (h : CfgInv s) : CfgInv t := by
  unfold CfgInv
  rwa [hc, hp]

theorem trackerInv_reset : TrackerInv State.reset :=
  ⟨fun _ => ⟨rfl, rfl⟩, nofun, ackMaxTries_pos⟩

theorem cfgInv_reset : CfgInv State.reset :=
  ⟨Config.openParams.cfgInit_valid, Config.openParams.cfgInit_valid⟩

/-- Every instruction but a sent-frame row that arms untested keeps the tracker invariants (41_codec.md R191). -/
theorem Transition.trackerInv {i : Instr} {s t : State} (h : Transition s i t) (hi : ¬ ArmsUntested i)
    (hs : TrackerInv s) : TrackerInv t := by
  cases h with
  | reported | ticked => exact hs
  | sentConfig => exact ⟨nofun, nofun, ackMaxTries_pos⟩
  | sentFreq f htests =>
    obtain ⟨_, hpending⟩ := hs.1 (htests hi)
    exact ⟨nofun, fun _ => hpending, ackMaxTries_pos⟩
  | reset => exact trackerInv_reset
  | polled v o =>
    have hpoll : TrackerInv (report o (withFramer v s)) := hs
    exact track_trackerInv hpoll
  | delivered v c f =>
    have hframer : TrackerInv (withFramer v s) := hs
    exact dispatchFrame_tracker_keeps (P := TrackerInv) (fun _ => track_trackerInv)
      (fun _ _ => trackerInv_of_registers) c f hframer

theorem Transition.cfgInv {i : Instr} {s t : State} (h : Transition s i t) (hi : ¬ ArmsUntested i)
    (hs : CfgInv s) : CfgInv t := by
  cases h with
  | reported | sentFreq | ticked => exact hs
  | sentConfig l c htests => exact ⟨hs.1, (htests hi).2⟩
  | reset => exact cfgInv_reset
  | polled v o =>
    have hpoll : CfgInv (report o (withFramer v s)) := hs
    exact track_cfgInv hpoll
  | delivered v c f =>
    have hframer : CfgInv (withFramer v s) := hs
    exact dispatchFrame_tracker_keeps (P := CfgInv) (fun _ => track_cfgInv)
      (fun _ _ hc hp _ _ => cfgInv_of_registers hc hp) c f hframer

theorem Transition.versionInv {i : Instr} {s t : State} (h : Transition s i t) (hs : VersionInv s) : VersionInv t := by
  cases h with
  | reported | sentConfig | sentFreq | ticked => exact hs
  | reset => rfl
  | polled =>
    rw [track_keeps]
    exact hs
  | delivered v c f =>
    unfold VersionInv
    rcases dispatchFrame_version_cases c f (withFramer v s) with ⟨hproto, hhw⟩ | ⟨_, _, _, _, hproto, hhw⟩ <;>
      rw [hproto, hhw]
    · exact hs
    · rfl

/-! ## The invariant of the whole block -/

/-- Settles O30, part by part: the framer at its start, the tracker idle, every bank cleared. -/
theorem invariantHoldsAtReset : Obligations.InvariantHoldsAtReset := by
  unfold Obligations.InvariantHoldsAtReset
  exact {
    framer := ⟨atStart_reset.framerTable, atStart_reset.markerAndLength, atStart_reset.bufferHolds⟩
    buffer := ⟨.nil, nofun⟩
    tracker := trackerInv_reset
    cfg := cfgInv_reset
    version := rfl
    ber := fun id => ⟨bankRanges_bankInvariant.reset id, bankCounts_bankInvariant.reset id⟩ }

/-- The instruction of an event keeps every invariant: the framer's and the buffer's by what the event does to the
framer, the others by the transition. -/
theorem exec_keeps_inv {e : Event} {i : Instr} {s t : State} (hi : decodeEvent e = .ok i) (hs : Inv s)
    (h : exec i s = .next t) : Inv t := by
  obtain ⟨htable, hmarker, hbytes⟩ := hs.framer
  have hframer := exec_framerEffect hi h
  have htests := not_armsUntested_of_decodeEvent hi
  have htrans := exec_transition h
  exact {
    framer := ⟨hframer.framerTable htable, hframer.markerAndLength htable hmarker, hframer.bufferHolds htable hbytes⟩
    buffer := hframer.buffer_wf htable hs.buffer
    tracker := htrans.trackerInv htests hs.tracker
    cfg := htrans.cfgInv htests hs.cfg
    version := htrans.versionInv hs.version
    ber := fun id => ⟨bankRanges_bankInvariant.transition (fun id => (hs.ber id).1) htrans id,
      bankCounts_bankInvariant.transition (fun id => (hs.ber id).2) htrans id⟩ }

/-- Settles O31, from `exec_keeps_inv`: no part of the invariant speaks of the waiting events. -/
theorem everyStepKeepsTheInvariant : Obligations.EveryStepKeepsTheInvariant := by
  unfold Obligations.EveryStepKeepsTheInvariant
  intro s t hs h
  exact step_keeps (fun _ _ hs => ⟨hs.framer, hs.buffer, hs.tracker, hs.cfg, hs.version, hs.ber⟩)
    (fun _ _ _ _ hi hs hrun => exec_keeps_inv hi hs hrun) hs h

end Sys2Proof.Proofs

/-! Proofs of the statements on 30_encoding.md: the decoder and the encoder (R100 to R105, R113), the operand bytes
(R107 to R110), and the frames the block sends (R105), with their shape by 41_codec.md R170 and R177. -/

namespace Sys2Proof.Proofs

open Sys2Proof.Machine Sys2Proof.Claims Sys2Proof.Laws

/-! ## Decoding an encoded instruction -/

/-- One law per row of the opcode table. -/
theorem decode_encode : ∀ i : Instr, i.wf = true → decode (encode i) = .ok i
  | .rxerr valid data => RoundTrip.rxerr valid data
  | .rxb data => RoundTrip.rxb data
  | .rxidle data => RoundTrip.rxidle data
  | .cmdGetVersion => RoundTrip.cmdGetVersion
  | .cmdGetStatus => RoundTrip.cmdGetStatus
  | .cmdSetConfig c => RoundTrip.cmdSetConfig c
  | .cmdSetFreq f p => RoundTrip.cmdSetFreq f p
  | .clock => RoundTrip.clock
  | .berRead id => RoundTrip.berRead id
  | .reset => RoundTrip.reset
  | .reserved0303 => RoundTrip.reserved0303
  | .reserved0505 => RoundTrip.reserved0505
  | .reserved0607 low => RoundTrip.reserved0607 low
  | .reserved080F low => RoundTrip.reserved080F low
  | .reserved101F low => RoundTrip.reserved101F low
  | .reserved203F low => RoundTrip.reserved203F low
  | .reserved407F low => RoundTrip.reserved407F low
  | .reserved80BF low => RoundTrip.reserved80BF low
  | .reservedC2C3 low => RoundTrip.reservedC2C3 low
  | .reservedC4C7 low => RoundTrip.reservedC4C7 low
  | .reservedC8CB low => RoundTrip.reservedC8CB low
  | .reservedCCCD low => RoundTrip.reservedCCCD low
  | .reservedCECE => RoundTrip.reservedCECE
  | .reservedD0DF low => RoundTrip.reservedD0DF low
  | .reservedE0FF low => RoundTrip.reservedE0FF low
  | .txGetVersion => RoundTrip.txGetVersion
  | .txGetStatus => RoundTrip.txGetStatus
  | .txSetConfigV1 c => RoundTrip.txSetConfigV1 c
  | .txSetConfigV2 c => RoundTrip.txSetConfigV2 c
  | .txSetFreq f p => RoundTrip.txSetFreq f p
  | .rxVersion f => RoundTrip.rxVersion f
  | .rxStatus f => RoundTrip.rxStatus f
  | .rxOther0203 f => RoundTrip.rxOther0203 f
  | .rxOther0407 f => RoundTrip.rxOther0407 f
  | .rxOther080F f => RoundTrip.rxOther080F f
  | .rxCodecData101F f => RoundTrip.rxCodecData101F f
  | .rxCodecData203F f => RoundTrip.rxCodecData203F f
  | .rxCodecData405F f => RoundTrip.rxCodecData405F f
  | .rxOther606F f => RoundTrip.rxOther606F f
  | .rxAck f => RoundTrip.rxAck f
  | .rxOther7171 f => RoundTrip.rxOther7171 f
  | .rxOther7273 f => RoundTrip.rxOther7273 f
  | .rxOther7477 f => RoundTrip.rxOther7477 f
  | .rxOther787B f => RoundTrip.rxOther787B f
  | .rxOther7C7D f => RoundTrip.rxOther7C7D f
  | .rxOther7E7E f => RoundTrip.rxOther7E7E f
  | .rxNak f => RoundTrip.rxNak f
  | .rxOther80BF f => RoundTrip.rxOther80BF f
  | .rxOtherC0DF f => RoundTrip.rxOtherC0DF f
  | .rxOtherE0EF f => RoundTrip.rxOtherE0EF f
  | .rxOtherF0F0 f => RoundTrip.rxOtherF0F0 f
  | .rxDebugF1 f => RoundTrip.rxDebugF1 f
  | .rxDebugF2 f => RoundTrip.rxDebugF2 f
  | .rxDebugF3 f => RoundTrip.rxDebugF3 f
  | .rxDebugF4 f => RoundTrip.rxDebugF4 f
  | .rxDebugF5 f => RoundTrip.rxDebugF5 f
  | .rxOtherF6F7 f => RoundTrip.rxOtherF6F7 f
  | .rxOtherF8FF f => RoundTrip.rxOtherF8FF f

/-- The decoder is a left inverse, so no two well-formed instructions share a word. -/
theorem encode_injective_of_wf {i j : Instr} (hi : i.wf = true) (hj : j.wf = true) (h : encode i = encode j) :
    i = j := by
  have hok : (.ok i : Except DecodeError Instr) = .ok j := by
    rw [← decode_encode i hi, h, decode_encode j hj]
  exact Except.ok.inj hok

/-- Settles O5, row by row from the laws of the opcode table. -/
theorem decodeOfEncode : Obligations.DecodeOfEncode := by
  unfold Obligations.DecodeOfEncode
  exact ⟨decode_encode, fun _ _ => encode_injective_of_wf⟩

/-- Settles O2: each conjunct is one run of the decoder on a fixed word. -/
theorem wordsDecodeToTheirRows : Obligations.WordsDecodeToTheirRows := by
  unfold Obligations.WordsDecodeToTheirRows
  exact ⟨rfl, rfl, rfl, rfl, rfl, rfl, rfl, rfl, rfl, rfl, rfl, rfl, rfl, rfl, rfl, rfl, rfl⟩

/-! ## Transport words -/

/-- A bit that a mask keeps is the bit of the masked value. -/
theorem getLsbD_of_and_eq {n : Nat} {w m p : BitVec n} (h : w &&& m = p) {i : Nat} (hm : m.getLsbD i = true) :
    w.getLsbD i = p.getLsbD i := by
  rw [← h, BitVec.getLsbD_and, hm, Bool.and_true]

/-- A transport word is its two flags and its data byte. -/
theorem transportWord_of_fields (w : BitVec 10) :
    transportWord (w.getLsbD 9) (w.getLsbD 8) (w.extractLsb' 0 8) = w := by
  revert w; decide +kernel

theorem encode_decodeTransport (w : BitVec 10) : encode (decodeTransport w) = .event (.transport w) := by
  rw [← transportWord_of_fields w, decodeTransport_transportWord]
  cases w.getLsbD 9
  · cases w.getLsbD 8 <;> rfl
  · rfl

/-- Settles O3: the masks keep bits 9 and 8, which the decoder tests. -/
theorem transportWordDecode : Obligations.TransportWordDecode := by
  unfold Obligations.TransportWordDecode
  refine fun w => ⟨fun h => ?_, fun h => ?_, fun h => ?_, encode_decodeTransport w⟩
  · have herr : w.getLsbD 9 = true := getLsbD_of_and_eq h rfl
    exact ⟨_, _, congrArg Except.ok (if_pos herr)⟩
  · have herr : w.getLsbD 9 = false := getLsbD_of_and_eq h rfl
    have hvalid : w.getLsbD 8 = true := getLsbD_of_and_eq h rfl
    exact congrArg Except.ok ((if_neg (ne_true_of_eq_false herr)).trans (if_pos hvalid))
  · have herr : w.getLsbD 9 = false := getLsbD_of_and_eq h rfl
    have hvalid : w.getLsbD 8 = false := getLsbD_of_and_eq h rfl
    exact ⟨_, congrArg Except.ok ((if_neg (ne_true_of_eq_false herr)).trans (if_neg (ne_true_of_eq_false hvalid)))⟩

/-! ## The tables partition their words -/

/-- Where the elements of a list exclude each other and one satisfies the test, it is the only one. -/
theorem filter_length_eq_one_of_exclusive {α : Type} {p : α → Bool} {l : List α}
    (hl : l.Pairwise (fun a b => ¬ (p a = true ∧ p b = true))) (hfind : (l.find? p).isSome = true) :
    (l.filter p).length = 1 := by
  have hsome : 0 < (l.filter p).length := by
    obtain ⟨r, hr⟩ := Option.isSome_iff_exists.mp hfind
    exact List.length_pos_of_mem (List.mem_filter.mpr ⟨List.mem_of_find?_eq_some hr, List.find?_some hr⟩)
  match hf : l.filter p with
  | [] => rw [hf] at hsome; cases hsome
  | [_] => rfl
  | a :: b :: _ =>
    have hab := List.rel_of_pairwise_cons (hf ▸ hl.filter p) (List.mem_cons_self ..)
    have hp : ∀ c ∈ l.filter p, p c = true := fun c hc => (List.mem_filter.mp hc).2
    exact absurd ⟨hp a (by simp [hf]), hp b (by simp [hf])⟩ hab

/-- Settles O4: the rows of either table exclude each other and cover every byte. -/
theorem rowsPartitionOpcodesAndTags : Obligations.RowsPartitionOpcodesAndTags := by
  unfold Obligations.RowsPartitionOpcodesAndTags
  exact ⟨fun op => filter_length_eq_one_of_exclusive (hostTable_exclusive op) (hostTable_covers op),
    fun t => filter_length_eq_one_of_exclusive (receivedTable_exclusive t) (receivedTable_covers t)⟩

/-! ## Reserved opcodes -/

/-- Fixed high bits before free low bits. -/
theorem toNat_append_eq_add {m k : Nat} (hi : BitVec m) (low : BitVec k) :
    (hi ++ low).toNat = hi.toNat * 2 ^ k + low.toNat := by
  rw [BitVec.toNat_append, ← Nat.shiftLeft_add_eq_or_of_lt low.isLt, Nat.shiftLeft_eq]

theorem refuseReserved_eq_refused {op : BitVec 8} {n : Nat} (h : op.toNat = n) (s : State) :
    (.next (refuseReserved op s) : Result) = .next (refused .badOp n s) := by
  subst h; rfl

/-- Settles O22: the opcode of a reserved row is its fixed bits, shifted, and its free bits. -/
theorem reservedOpcodesAreRefused : Obligations.ReservedOpcodesAreRefused := by
  unfold Obligations.ReservedOpcodesAreRefused
  exact fun s => ⟨rfl, rfl,
    fun low => refuseReserved_eq_refused (toNat_append_eq_add (0x3#7) low) s,
    fun low => refuseReserved_eq_refused (toNat_append_eq_add (0x1#5) low) s,
    fun low => refuseReserved_eq_refused (toNat_append_eq_add (0x1#4) low) s,
    fun low => refuseReserved_eq_refused (toNat_append_eq_add (0x1#3) low) s,
    fun low => refuseReserved_eq_refused (toNat_append_eq_add (0x1#2) low) s,
    fun low => refuseReserved_eq_refused (toNat_append_eq_add (0x2#2) low) s,
    fun low => refuseReserved_eq_refused (toNat_append_eq_add (0x61#7) low) s,
    fun low => refuseReserved_eq_refused (toNat_append_eq_add (0x31#6) low) s,
    fun low => refuseReserved_eq_refused (toNat_append_eq_add (0x32#6) low) s,
    fun low => refuseReserved_eq_refused (toNat_append_eq_add (0x66#7) low) s,
    rfl,
    fun low => refuseReserved_eq_refused (toNat_append_eq_add (0xD#4) low) s,
    fun low => refuseReserved_eq_refused (toNat_append_eq_add (0x7#3) low) s⟩

/-! ## Operand bytes -/

/-- An integer in the range of a byte is the value of its byte. -/
theorem toNat_ofInt_byte {v : Int} (h0 : 0 ≤ v) (h1 : v < 256) : ((BitVec.ofInt 8 v).toNat : Int) = v := by
  rw [BitVec.toNat_ofInt]
  omega

/-- A level in range rounds to a byte, at the default `LEVEL_SCALE` (30_encoding.md R108). -/
theorem encLevel_toNat {x : Int} (h0 : 0 ≤ x) (h1 : x ≤ 100 * Config.levelScale) :
    ((encLevel x).toNat : Int) = (510 * x + 100 * Config.levelScale) / (200 * Config.levelScale) := by
  have hscale : Config.levelScale = 1 := rfl
  rw [hscale] at h1
  apply toNat_ofInt_byte <;> rw [hscale] <;> omega

theorem encDc_toNat {d : Int} (h0 : -128 ≤ d) (h1 : d ≤ 127) : ((encDc d).toNat : Int) = d + 128 :=
  toNat_ofInt_byte (by omega) (by omega)

theorem decDc_encDc {d : Int} (h0 : -128 ≤ d) (h1 : d ≤ 127) : decDc (encDc d) = d := by
  rw [decDc, encDc_toNat h0 h1, Int.add_sub_cancel]

/-- Settles O52: inside their ranges both encodings stay inside a byte. -/
theorem levelAndOffsetBytes : Obligations.LevelAndOffsetBytes := by
  unfold Obligations.LevelAndOffsetBytes
  exact ⟨fun _ => encLevel_toNat, rfl, rfl, fun _ h0 h1 => ⟨encDc_toNat h0 h1, decDc_encDc h0 h1⟩, fun _ => rfl⟩

/-! ## Short frames -/

/-- A complete wire frame in the short form, by its tag and its length (30_encoding.md R90, R92). -/
structure ShortFrame (t : Byte) (n : Nat) (f : List Byte) : Prop where
  wire : isWireFrame f = true
  short : isExtended f = false
  tag : frameTag f = some t
  length : f.length = n

/-- Where `mkframe` is defined its length byte is the length, and no escape (41_codec.md R170). -/
theorem shortFrame_mkframe (t : Byte) (p : List Byte) (hp : 3 + p.length < 250) :
    ShortFrame t (3 + p.length) (mkframe t p) := by
  have hbyte : (BitVec.ofNat 8 (3 + p.length)).toNat = 3 + p.length := by
    rw [BitVec.toNat_ofNat]; omega
  have hlen : (mkframe t p).length = 3 + p.length := by
    simp only [mkframe, List.length_cons]; omega
  have hsecond : (mkframe t p)[1]? = some (BitVec.ofNat 8 (3 + p.length)) := rfl
  have hshort : isExtended (mkframe t p) = false := by
    rw [isExtended, hsecond, Option.any_some, hbyte, beq_eq_false_iff_ne]
    simp [Config.extLenEscape]
  refine ⟨?_, hshort, ?_, hlen⟩
  · have hdeclared : declaredLength (mkframe t p) = some (mkframe t p).length := by
      rw [declaredLength, hshort, if_neg Bool.false_ne_true, hsecond, Option.map_some, hbyte, hlen]
    have hvalid : validShortLength (mkframe t p).length = true := by
      rw [hlen, validShortLength_iff]; omega
    have hmarker : (mkframe t p)[0]? = some Config.startMarker := rfl
    simp [isWireFrame, hmarker, hdeclared, hshort, hvalid]
  · rw [frameTag, headerLength, hshort]
    rfl

/-! ## The bytes of a configuration frame -/

theorem mem_flagNames (f : FlagName) : f ∈ FlagName.all := by
  rcases f with c | k | _ | _
  · cases c <;> simp [FlagName.all]
  · cases k <;> simp [FlagName.all]
  · simp [FlagName.all]
  · simp [FlagName.all]

theorem mem_listed_of_mode {l : Layout} {i : Nat} (hi : i ∈ l.mode) : i ∈ l.listed := by
  simp [Layout.listed, hi]

theorem mem_listed_of_dc {l : Layout} {k : Side} {i : Nat} (hi : i ∈ l.dc k) : i ∈ l.listed := by
  cases k <;> simp [Layout.listed, hi]

theorem mem_listed_of_level {l : Layout} {k : Side} {i : Nat} (hi : i ∈ l.level k) : i ∈ l.listed := by
  cases k <;> simp [Layout.listed, hi]

theorem encodeCfg_getElem? (l : Layout) (c : Cfg) {i : Nat} (h3 : 3 ≤ i) (hi : i < l.total) :
    (encodeCfg l c)[i]? = some (cfgByte l c i) := by
  obtain ⟨k, rfl⟩ := Nat.exists_eq_add_of_le' h3
  simp only [encodeCfg, List.getElem?_cons_succ]
  rw [List.getElem?_map, List.getElem?_range (by omega), Option.map_some]

section WellFormedLayout

variable {l : Layout} {n : Nat} (hwf : l.wf n) (c : Cfg)

include hwf

/-- A well-formed layout has room for a payload: its mode byte has an index. -/
theorem three_lt_of_layout_wf : 3 < n := by
  obtain ⟨_, ⟨hmode, _⟩, hlisted, _⟩ := hwf
  obtain ⟨i, hi⟩ := List.exists_mem_of_ne_nil _ hmode
  have := hlisted i (mem_listed_of_mode hi)
  omega

theorem encodeCfg_eq_mkframe :
    encodeCfg l c = mkframe Config.tagSetConfig ((encodeCfg l c).drop 3) ∧ 3 + ((encodeCfg l c).drop 3).length = n := by
  have hn := three_lt_of_layout_wf hwf
  obtain ⟨htotal, _⟩ := hwf
  have hlen : 3 + ((encodeCfg l c).drop 3).length = n := by
    simp only [encodeCfg, List.drop_succ_cons, List.drop_zero, List.length_map, List.length_range]
    omega
  refine ⟨?_, hlen⟩
  rw [mkframe, hlen, ← htotal]
  rfl

theorem shortFrame_encodeCfg (hn : n < 250) : ShortFrame Config.tagSetConfig n (encodeCfg l c) := by
  obtain ⟨hframe, hlen⟩ := encodeCfg_eq_mkframe hwf c
  have hshort := shortFrame_mkframe Config.tagSetConfig _ (hlen.trans_lt hn)
  rwa [← hframe, hlen] at hshort

theorem holdsFlag_eq_false_of_listed {i : Nat} (hi : i ∈ l.listed) : holdsFlag l i = false := by
  obtain ⟨_, _, _, _, _, _, hflags⟩ := hwf
  rw [holdsFlag, List.any_eq_false]
  rintro f hf hoff
  exact hflags f hf (eq_of_beq hoff ▸ hi)

theorem cfgByte_mode {i : Nat} (hi : i ∈ l.mode) : cfgByte l c i = modeByte c := by
  have hflag := holdsFlag_eq_false_of_listed hwf (mem_listed_of_mode hi)
  simp [cfgByte, hflag, hi]

/-- No index is in two byte lists (41_codec.md R176). -/
theorem byteLists_disjoint :
    [l.mode, l.dc .tx, l.dc .rx, l.level .rx, l.level .tx].Pairwise List.Disjoint := by
  obtain ⟨_, _, _, _, _, hnodup, _⟩ := hwf
  exact (List.nodup_flatten.mp (by simpa [Layout.listed] using hnodup)).2

/-- The lists are disjoint, so the first case of `cfgByte` that holds an index is its own. -/
theorem cfgByte_dc {k : Side} {i : Nat} (hi : i ∈ l.dc k) : cfgByte l c i = encDc (c.dc k) := by
  have hflag := holdsFlag_eq_false_of_listed hwf (mem_listed_of_dc hi)
  have hdisjoint := byteLists_disjoint hwf
  cases k <;> grind [cfgByte, Cfg.dc, List.Disjoint, List.pairwise_cons]

theorem cfgByte_level {k : Side} {i : Nat} (hi : i ∈ l.level k) : cfgByte l c i = encLevel (c.level k) := by
  have hflag := holdsFlag_eq_false_of_listed hwf (mem_listed_of_level hi)
  have hdisjoint := byteLists_disjoint hwf
  cases k <;> grind [cfgByte, Cfg.level, List.Disjoint, List.pairwise_cons]

end WellFormedLayout

theorem cfgByte_fill {l : Layout} (c : Cfg) {i : Nat} (hi : i ∉ l.listed) (hflag : ∀ f, (l.flag f).off ≠ i) :
    cfgByte l c i = l.fill i := by
  have hflag : holdsFlag l i = false := by simp [holdsFlag, hflag]
  simp only [Layout.listed, List.mem_append, not_or] at hi
  simp [cfgByte, hflag, hi]

/-- A flag of a well-formed layout has its bit to itself, so the byte that holds it stores its bit there. -/
theorem flagByte_getLsbD {l : Layout} {n : Nat} (hwf : l.wf n) (c : Cfg) (f : FlagName) :
    (flagByte l c (l.flag f).off).getLsbD (l.flag f).bit = storedBit l c f := by
  obtain ⟨_, _, _, _, hplaces, _⟩ := hwf
  have hown : ∀ g, (l.flag g).off = (l.flag f).off → (l.flag g).bit = (l.flag f).bit → g = f := fun g hoff hbit =>
    List.inj_on_of_nodup_map hplaces (mem_flagNames g) (mem_flagNames f) (Prod.ext hoff hbit)
  rw [flagByte, BitVec.getLsbD_ofFnLE, dif_pos (l.flag f).bit.isLt, Bool.eq_iff_iff, List.any_eq_true]
  simp only [Bool.and_eq_true, beq_iff_eq]
  constructor
  · rintro ⟨g, _, ⟨hoff, hbit⟩, hstored⟩
    exact hown g hoff hbit ▸ hstored
  · exact fun hstored => ⟨f, mem_flagNames f, ⟨rfl, rfl⟩, hstored⟩

theorem flagByte_getLsbD_of_unclaimed {l : Layout} (c : Cfg) {i : Nat} {b : Fin 8}
    (hb : ∀ g, (l.flag g).off = i → (l.flag g).bit ≠ b) : (flagByte l c i).getLsbD b = false := by
  rw [flagByte, BitVec.getLsbD_ofFnLE, dif_pos b.isLt, List.any_eq_false]
  rintro g _ hg
  simp only [Bool.and_eq_true, beq_iff_eq] at hg
  obtain ⟨⟨hoff, hbit⟩, _⟩ := hg
  exact hb g hoff hbit

/-- The byte at the index of a flag is the flag byte of that index. -/
theorem encodeCfg_getD_flag {l : Layout} {n : Nat} (hwf : l.wf n) (c : Cfg) (f : FlagName) :
    (encodeCfg l c).getD (l.flag f).off 0 = flagByte l c (l.flag f).off := by
  obtain ⟨htotal, _, _, hrange, _⟩ := hwf
  obtain ⟨h3, hn⟩ := hrange f (mem_flagNames f)
  have hholds : holdsFlag l (l.flag f).off = true :=
    List.any_eq_true.mpr ⟨f, mem_flagNames f, beq_self_eq_true _⟩
  rw [List.getD_eq_getElem?_getD, encodeCfg_getElem? l c h3 (htotal ▸ hn), Option.getD_some, cfgByte, if_pos hholds]

theorem encodeCfg_getElem?_listed {l : Layout} {n : Nat} (hwf : l.wf n) (c : Cfg) {i : Nat} (hi : i ∈ l.listed) :
    (encodeCfg l c)[i]? = some (cfgByte l c i) := by
  obtain ⟨htotal, _, hrange, _⟩ := hwf
  obtain ⟨h3, hn⟩ := hrange i hi
  exact encodeCfg_getElem? l c h3 (htotal ▸ hn)

/-- Settles O51: the frame byte by byte, each index by the field that claims it. -/
theorem configurationFrameShape : Obligations.ConfigurationFrameShape := by
  unfold Obligations.ConfigurationFrameShape
  intro l n c hwf hn
  have hframe := shortFrame_encodeCfg hwf c hn
  obtain ⟨hmkframe, _⟩ := encodeCfg_eq_mkframe hwf c
  refine ⟨hmkframe, hframe.length, hframe.wire, fun i hi => ?_, fun k i hi => ?_, fun k i hi => ?_,
    fun f => ?_, fun f b hb => ?_, fun i h3 hi hlisted hflag => ?_⟩
  · rw [encodeCfg_getElem?_listed hwf c (mem_listed_of_mode hi), cfgByte_mode hwf c hi, modeByte]
  · rw [encodeCfg_getElem?_listed hwf c (mem_listed_of_dc hi), cfgByte_dc hwf c hi]
  · rw [encodeCfg_getElem?_listed hwf c (mem_listed_of_level hi), cfgByte_level hwf c hi]
  · rw [encodeCfg_getD_flag hwf c f, flagByte_getLsbD hwf c f]
    rfl
  · rw [encodeCfg_getD_flag hwf c f, flagByte_getLsbD_of_unclaimed c hb]
  · obtain ⟨htotal, _⟩ := hwf
    rw [encodeCfg_getElem? l c h3 (htotal ▸ hi), cfgByte_fill c hlisted hflag]

/-! ## The frames the block sends -/

/-- What an output record sends: the frame of this tag and length and nothing delivered, or nothing at all. -/
structure Sends (t : Byte) (n : Nat) (o : Output) : Prop where
  undelivered : o.frame = none
  frame : ∀ f, o.tx = some f → ShortFrame t n f

theorem sends_of_tx {t : Byte} {n : Nat} {f : List Byte} (h : ShortFrame t n f) : Sends t n { tx := some f } where
  undelivered := rfl
  frame := fun _ hg => Option.some.inj hg ▸ h

theorem sends_refuse (t : Byte) (n : Nat) (c : Cause) (info : Nat) (s : State) : Sends t n (refuse c info s).out where
  undelivered := rfl
  frame := nofun

theorem execTxGetVersion_sends {s t : State} (h : execTxGetVersion s = .next t) : Sends 0x00 3 t.out :=
  Host.Outcome.next.inj h ▸ sends_of_tx (shortFrame_mkframe _ [] (by decide))

theorem execTxGetStatus_sends {s t : State} (h : execTxGetStatus s = .next t) : Sends 0x01 3 t.out :=
  Host.Outcome.next.inj h ▸ sends_of_tx (shortFrame_mkframe _ [] (by decide))

theorem execTxSetConfigV1_sends {c : Cfg} {s t : State} (h : execTxSetConfigV1 c s = .next t) : Sends 0x02 27 t.out :=
  Host.Outcome.next.inj h ▸ sends_of_tx (shortFrame_encodeCfg Config.openParams.layoutV1_wf c (by decide))

theorem execTxSetConfigV2_sends {c : Cfg} {s t : State} (h : execTxSetConfigV2 c s = .next t) : Sends 0x02 40 t.out :=
  Host.Outcome.next.inj h ▸ sends_of_tx (shortFrame_encodeCfg Config.openParams.layoutV2_wf c (by decide))

theorem execTxSetFreq_sends {f : BitVec 32} {p : Byte} {s t : State} (h : execTxSetFreq f p s = .next t) :
    Sends 0x04 13 t.out :=
  Host.Outcome.next.inj h ▸ sends_of_tx (shortFrame_mkframe _ (freqPayload f p) (by simp [freqPayload, littleEndian4]))

theorem execCmdSetFreq_sends {f : BitVec 32} {p : Byte} {s t : State} (h : execCmdSetFreq f p s = .next t) :
    Sends 0x04 13 t.out := by
  unfold execCmdSetFreq at h
  split at h
  · exact Host.Outcome.next.inj h ▸ sends_refuse _ _ _ _ s
  · exact execTxSetFreq_sends h

/-- The negotiated version chooses the layout, and so the length (41_codec.md R174). -/
theorem execCmdSetConfig_sends {c : Cfg} {s t : State} (h : execCmdSetConfig c s = .next t) :
    Sends 0x02 (if s.protoVersion = some .v1 then 27 else 40) t.out := by
  unfold execCmdSetConfig at h
  split at h
  · exact Host.Outcome.next.inj h ▸ sends_refuse _ _ _ _ s
  · split at h
    · exact Host.Outcome.next.inj h ▸ sends_refuse _ _ _ _ s
    · next v hv =>
      rw [hv]
      split at h
      · cases v with
        | v1 => exact execTxSetConfigV1_sends h
        | v2 => exact execTxSetConfigV2_sends h
      · exact Host.Outcome.next.inj h ▸ sends_refuse _ _ _ _ s

theorem dispatchFrame_tx (c : FrameClass) (f : List Byte) (s : State) : (dispatchFrame c f s).out.tx = none := by
  obtain ⟨_, _, _, _, htx, _⟩ := dispatchFrame_out c f s
  exact htx

theorem execRxb_tx {b : Byte} {s t : State} (h : execRxb b s = .next t) : t.out.tx = none := by
  rcases execRxb_cases h with ⟨_, _, rfl⟩ | ⟨_, _, _, _, _, rfl⟩ | ⟨v, _, rfl⟩ | ⟨f, g, _, _, _, _, _, _, rfl⟩
  · rfl
  · rfl
  · obtain ⟨_, _, _, _, he⟩ := invalidLength_cases v s
    rw [he]
  · exact dispatchFrame_tx ..

theorem execRxidle_tx (d : Byte) {s t : State} (h : execRxidle d s = .next t) : t.out.tx = none := by
  obtain ⟨_, _, _, _, he⟩ := execRxidle_cases d s
  exact Host.Outcome.next.inj (he.symm.trans h) ▸ rfl

theorem execRxerr_tx (v : Bool) (d : Byte) {s t : State} (h : execRxerr v d s = .next t) : t.out.tx = none := by
  obtain ⟨_, _, _, _, he⟩ := execRxerr_cases v d s
  exact Host.Outcome.next.inj (he.symm.trans h) ▸ rfl

theorem execBerRead_tx {id : BitVec 3} {s t : State} (h : execBerRead id s = .next t) : t.out.tx = none := by
  unfold execBerRead at h
  split at h <;> exact Host.Outcome.next.inj h ▸ rfl

/-- Settles O49: the four sending commands and the five sent frames by what each sends, every other row by sending
nothing. The rows not named are those of the received frames. -/
theorem sentFramesAreShortWireFrames : Obligations.SentFramesAreShortWireFrames := by
  unfold Obligations.SentFramesAreShortWireFrames
  intro i s t f h htx
  have sent {tag : Byte} {n : Nat} (hs : Sends tag n t.out) :
      isWireFrame f = true ∧ isExtended f = false ∧ t.out.frame = none ∧ frameTag f = some tag ∧ f.length = n :=
    have hf := hs.frame f htx
    ⟨hf.wire, hf.short, hs.undelivered, hf.tag, hf.length⟩
  have silent (hnone : t.out.tx = none) : False := nomatch hnone.symm.trans htx
  cases i with
  | cmdGetVersion | txGetVersion => exact sent (execTxGetVersion_sends h)
  | cmdGetStatus | txGetStatus => exact sent (execTxGetStatus_sends h)
  | cmdSetConfig => exact sent (execCmdSetConfig_sends h)
  | txSetConfigV1 => exact sent (execTxSetConfigV1_sends h)
  | txSetConfigV2 => exact sent (execTxSetConfigV2_sends h)
  | cmdSetFreq => exact sent (execCmdSetFreq_sends h)
  | txSetFreq => exact sent (execTxSetFreq_sends h)
  | rxerr v d => exact (silent (execRxerr_tx v d h)).elim
  | rxb => exact (silent (execRxb_tx h)).elim
  | rxidle d => exact (silent (execRxidle_tx d h)).elim
  | berRead => exact (silent (execBerRead_tx h)).elim
  | clock | reset | reserved0303 | reserved0505 | reserved0607 | reserved080F | reserved101F | reserved203F
  | reserved407F | reserved80BF | reservedC2C3 | reservedC4C7 | reservedC8CB | reservedCCCD | reservedCECE
  | reservedD0DF | reservedE0FF => exact (silent (Host.Outcome.next.inj h ▸ rfl)).elim
  | _ => exact (silent (Host.Outcome.next.inj h ▸ dispatchFrame_tx ..)).elim

end Sys2Proof.Proofs

/-! Proofs of the statements on 40_framer.md: the rule of each state (R130 to R143), the length law (R147), noise (R146)
and chunk independence (R145). -/

namespace Sys2Proof.Proofs

open Sys2Proof.Machine Sys2Proof.Safety Sys2Proof.Claims

/-! ## The rule of each state -/

theorem execRxb_of_awaitStart {s : State} (hs : s.rxState = .awaitStart) (b : Byte) :
    execRxb b s = .next (rxAwaitStart b s) := by
  simp only [execRxb, hs]

theorem execRxb_of_awaitLength {s : State} (hs : s.rxState = .awaitLength) (b : Byte) :
    execRxb b s = .next (rxAwaitLength b s) := by
  simp only [execRxb, hs]

theorem execRxb_of_awaitExtLen {s : State} (hs : s.rxState = .awaitExtLen) (b : Byte) :
    execRxb b s = rxAwaitExtLen b s := by
  simp only [execRxb, hs]

/-- The state after a start marker (40_framer.md R131). -/
def opened (s : State) : State :=
  { s with buf := Memory.write s.buf 0 0xE0, rxOffset := 1, rxState := .awaitLength, out := {} }

theorem execRxb_marker {s : State} (hs : s.rxState = .awaitStart) : execRxb 0xE0 s = .next (opened s) :=
  execRxb_of_awaitStart hs 0xE0

theorem rxAwaitStart_noise {b : Byte} (hb : b ≠ 0xE0) (s : State) : rxAwaitStart b s = report {} s :=
  if_neg hb

theorem rxAwaitLength_tooLong {l : Byte} (hl : 250 ≤ l.toNat) (s : State) :
    rxAwaitLength l s = invalidLength l.toNat s :=
  if_pos hl

theorem rxAwaitLength_short {l : Byte} (hmin : 3 ≤ l.toNat) (hmax : l.toNat < 250) (s : State) :
    rxAwaitLength l s =
      { s with
        buf := Memory.write s.buf 1 l, rxLength := l.toNat, rxOffset := 2, rxState := .awaitType, out := {} } := by
  have hzero : l.toNat ≠ 0 := by omega
  exact (if_neg (Nat.not_le.mpr hmax)).trans ((if_neg hzero).trans (if_neg (Nat.not_lt.mpr hmin)))

/-- The state after a start marker and the escape to the extended length (40_framer.md R131, R135). -/
def escaped (s : State) : State :=
  { opened s with
    buf := Memory.write (opened s).buf 1 0x00, rxOffset := 2, rxExt := true, rxState := .awaitExtLen, out := {} }

theorem execRxb_escape (s : State) : execRxb 0x00 (opened s) = .next (escaped s) :=
  execRxb_of_awaitLength rfl 0x00

/-- The first byte of the extended length is stored (40_framer.md R137). -/
theorem rxAwaitExtLen_high {s : State} (hoff : s.rxOffset = 2) (b : Byte) :
    rxAwaitExtLen b s = .next { s with buf := Memory.write s.buf 2 b, rxOffset := 3, out := {} } :=
  if_pos hoff

/-- The second byte of the extended length completes and tests it (40_framer.md R138). -/
theorem rxAwaitExtLen_low {s : State} (hoff : s.rxOffset = 3) (b : Byte) :
    rxAwaitExtLen b s = .next (
      if validExtLength (bigEndian16 (Memory.read s.buf 2) b) then
        { s with
          buf := Memory.write s.buf 3 b, rxLength := bigEndian16 (Memory.read s.buf 2) b, rxOffset := 4
          rxState := .awaitType, out := {} }
      else invalidLength (bigEndian16 (Memory.read s.buf 2) b) s) := by
  rw [rxAwaitExtLen, if_neg (by omega), if_pos hoff]
  split <;> rfl

/-- A type or payload byte that is not the last is absorbed (40_framer.md R139, R140). -/
theorem rxFrameByte_absorbed {s : State} (hoff : s.rxOffset < 65535) (hlast : s.rxOffset + 1 ≠ s.rxLength)
    (b : Byte) :
    rxFrameByte b s = .next { s with
      buf := Memory.write s.buf s.rxOffset b, rxOffset := s.rxOffset + 1, rxState := .awaitPayload, out := {} } :=
  (if_pos hoff).trans (if_neg hlast)

/-- The tracker on a report that ends a poll with neither ACK nor NAK is one attempt (41_codec.md R192, R195). -/
theorem track_eq_attempted {s : State} (hpoll : s.out.rxStatus ≠ .cont) (hack : s.out.cls ≠ some .ack)
    (hnak : s.out.cls ≠ some .nak) : track s = attempted s := by
  rcases track_cases s with ⟨hidle | hcont, ht⟩ | ⟨hwait, _, ⟨h, _⟩ | ⟨_, h, _, _⟩ | ⟨_, hlast, ht⟩ | ⟨_, hlast, ht⟩⟩
  · rw [ht, attempted, if_pos hidle]
  · exact absurd hcont hpoll
  · exact absurd h hack
  · exact absurd h hnak
  · rw [ht, attempted, if_neg hwait]
    exact (if_pos hlast).symm
  · rw [ht, attempted, if_neg hwait]
    exact (if_neg hlast).symm

theorem invalidLength_eq_attempted (v : Nat) (s : State) :
    invalidLength v s = attempted (aborted .protocolError .invalidLength v s) :=
  track_eq_attempted nofun nofun nofun

/-! ## The statements on single bytes, idle reads and transport errors -/

/-- Settles O9: the rule of `AwaitStart` is the statement. -/
theorem startByteOpensAFrameOrIsNoise : Obligations.StartByteOpensAFrameOrIsNoise := by
  unfold Obligations.StartByteOpensAFrameOrIsNoise
  exact fun b s hs => execRxb_of_awaitStart hs b

/-- Settles O10: the rule's own chain of tests, its errors written out. -/
theorem lengthByteDecidesTheForm : Obligations.LengthByteDecidesTheForm := by
  unfold Obligations.LengthByteDecidesTheForm
  intro b s hs
  rw [← invalidLength_eq_attempted]
  exact execRxb_of_awaitLength hs b

/-- Settles O11: the test of the length, read from the other side. -/
theorem extendedLengthIsBigEndianAndBounded : Obligations.ExtendedLengthIsBigEndianAndBounded := by
  unfold Obligations.ExtendedLengthIsBigEndianAndBounded
  refine ⟨fun b s hs hoff => (execRxb_of_awaitExtLen hs b).trans (rxAwaitExtLen_high hoff b), ?_⟩
  rintro b hi s hs hoff rfl
  have hvalid := validExtLength_iff (bigEndian16 (Memory.read s.buf 2) b)
  refine (execRxb_of_awaitExtLen hs b).trans ((rxAwaitExtLen_low hoff b).trans (congrArg _ ?_))
  rw [← invalidLength_eq_attempted]
  by_cases h : validExtLength (bigEndian16 (Memory.read s.buf 2) b) = true
  · obtain ⟨hmin, hmax⟩ := hvalid.mp h
    rw [if_pos h]
    exact (if_neg (not_or.mpr ⟨Nat.not_lt.mpr hmin, Nat.not_lt.mpr hmax⟩)).symm
  · rw [if_neg h]
    refine (if_pos ?_).symm
    by_contra hrange
    exact h (hvalid.mpr ⟨Nat.not_lt.mp (not_or.mp hrange).1, Nat.not_lt.mp (not_or.mp hrange).2⟩)

/-- Settles O13, by the rule of a byte that is absorbed. -/
theorem payloadByteThatIsNotLastIsStored : Obligations.PayloadByteThatIsNotLastIsStored := by
  unfold Obligations.PayloadByteThatIsNotLastIsStored
  exact fun b s hs hoff hlast => (execRxb_of_frameByte hs b).trans (rxFrameByte_absorbed hoff hlast b)

/-- Settles O16: a report without a frame is one attempt. -/
theorem wouldBlockKeepsThePosition : Obligations.WouldBlockKeepsThePosition := by
  unfold Obligations.WouldBlockKeepsThePosition
  exact fun _ s => congrArg Host.Outcome.next
    (track_eq_attempted (s := report { rxStatus := .wouldBlock } s) nofun nofun nofun)

/-- Settles O17: the error is taken first, then counts as one attempt. -/
theorem transportErrorAbortsTheFrame : Obligations.TransportErrorAbortsTheFrame := by
  unfold Obligations.TransportErrorAbortsTheFrame
  exact fun _ _ s => congrArg Host.Outcome.next
    (track_eq_attempted (s := raiseError .transportError .transportReadError 0 s) nofun nofun nofun)

/-! ## The last byte of a frame -/

/-- A received frame decodes to a row of the table, and delivering it is that row's meaning (41_codec.md R184). -/
theorem receiveFrame_eq_exec {f : List Byte} {i : Instr} (h : decodeReceived f = .ok i) (s : State) :
    receiveFrame f s = exec i s := by
  have hrow : ∃ r ∈ receivedTable, r.make f = i := by
    unfold decodeReceived at h
    split at h
    · split at h
      · cases h
      · split at h
        · next r hr => exact ⟨r, List.mem_of_find?_eq_some hr, Except.ok.inj h⟩
        · cases h
    · cases h
  obtain ⟨r, hr, rfl⟩ := hrow
  have hrun : runReceived (r.make f) s = exec (r.make f) s := by fin_cases hr <;> rfl
  simp only [receiveFrame, h, hrun]

/-- Settles O12: the absorbed byte by its rule, the last one by the row that the completed frame decodes to. -/
theorem typeAndPayloadBytesAreStoredOrComplete : Obligations.TypeAndPayloadBytesAreStoredOrComplete := by
  unfold Obligations.TypeAndPayloadBytesAreStoredOrComplete
  intro b s i hs hoff hi
  have hi : decodeReceived (Memory.readRange s.buf 0 s.rxOffset ++ [b]) = .ok i := hi
  refine (execRxb_of_frameByte hs b).trans ?_
  split
  · next hlast => exact (rxFrameByte_last hoff hlast b).trans (receiveFrame_eq_exec hi _)
  · next hlast => exact rxFrameByte_absorbed hoff hlast b

/-- A step that delivered the frame `f` and left the framer at its start (40_framer.md R141). -/
structure Delivers (f : List Byte) (t : State) : Prop where
  status : t.out.rxStatus = .frameDone
  frame : t.out.frame = some f
  start : AtStart t

/-- The last byte delivers the bytes before it and itself where they have marker and tag (40_framer.md R141). -/
theorem execRxb_delivers {b g : Byte} {s : State} (hs : s.rxState = .awaitType ∨ s.rxState = .awaitPayload)
    (hoff : s.rxOffset < 65535) (hlast : s.rxOffset + 1 = s.rxLength)
    (hmarker : (Memory.readRange s.buf 0 s.rxOffset ++ [b])[0]? = some Config.startMarker)
    (htag : frameTag (Memory.readRange s.buf 0 s.rxOffset ++ [b]) = some g) :
    ∃ t, execRxb b s = .next t ∧ Delivers (Memory.readRange s.buf 0 s.rxOffset ++ [b]) t ∧
      t.buf = Memory.write s.buf s.rxOffset b := by
  have hrun : execRxb b s = .next (dispatchFrame (classOfTag g) (Memory.readRange s.buf 0 s.rxOffset ++ [b])
      (resetFramer { s with buf := Memory.write s.buf s.rxOffset b })) := by
    rw [execRxb_of_frameByte hs, rxFrameByte_last hoff hlast, receiveFrame_of_tag hmarker htag]
  obtain ⟨hst, ho, hl, he, hbuf, _⟩ := dispatchFrame_keeps (classOfTag g)
    (Memory.readRange s.buf 0 s.rxOffset ++ [b]) (resetFramer { s with buf := Memory.write s.buf s.rxOffset b })
  obtain ⟨hstatus, hframe, _⟩ := dispatchFrame_out (classOfTag g)
    (Memory.readRange s.buf 0 s.rxOffset ++ [b]) (resetFramer { s with buf := Memory.write s.buf s.rxOffset b })
  exact ⟨_, hrun, ⟨hstatus, hframe, hst, ho, hl, he⟩, hbuf⟩

/-- Settles O14: under the invariants the completed frame has marker and tag, and its delivery keeps the framer at the
start and the buffer as the last byte left it. -/
theorem lastByteDeliversTheWholeFrame : Obligations.LastByteDeliversTheWholeFrame := by
  unfold Obligations.LastByteDeliversTheWholeFrame
  intro b s ⟨htable, hbytes, _⟩ hs hlast
  have htwo := two_le_rxOffset htable hs
  have hmarker := completed_marker htable hbytes hs b
  obtain ⟨g, hg⟩ := completed_frameTag htable hbytes hs b
  obtain ⟨t, hrun, hdelivers, hbuf⟩ := execRxb_delivers hs (rxOffset_lt_of_framerTable htable) hlast hmarker hg
  obtain ⟨hst, ho, hl, he⟩ := hdelivers.start
  refine ⟨_, t, hrun, hdelivers.status, hdelivers.frame, ?length, fun i hi => completed_getElem? b hi, ?last, hmarker,
    ?second, hbuf, hst, ho, hl, he⟩
  case length => rw [List.length_append, Memory.readRange_length, List.length_singleton, hlast]
  case last =>
    rw [List.getElem?_append_right (by rw [Memory.readRange_length]), Memory.readRange_length, Nat.sub_self]
    rfl
  case second => rw [completed_getElem? b (by omega), hbytes.2 htwo]

/-! ## Who writes the framer's registers -/

theorem dispatchFrame_framerView (c : FrameClass) (f : List Byte) (s : State) :
    framerView (dispatchFrame c f s) = framerView s := by
  obtain ⟨hst, hoff, hlen, hext, hbuf, _⟩ := dispatchFrame_keeps c f s
  rw [framerView, hst, hoff, hlen, hext, hbuf, framerView]

theorem execRxidle_framerView (d : Byte) {s t : State} (h : execRxidle d s = .next t) :
    framerView t = framerView s := by
  obtain ⟨_, _, _, _, he⟩ := execRxidle_cases d s
  exact Host.Outcome.next.inj (he.symm.trans h) ▸ rfl

theorem execCmdSetConfig_framerView {c : Cfg} {s t : State} (h : execCmdSetConfig c s = .next t) :
    framerView t = framerView s := by
  unfold execCmdSetConfig at h
  split at h
  · exact Host.Outcome.next.inj h ▸ rfl
  · split at h
    · exact Host.Outcome.next.inj h ▸ rfl
    · split at h
      · split at h <;> exact Host.Outcome.next.inj h ▸ rfl
      · exact Host.Outcome.next.inj h ▸ rfl

theorem execCmdSetFreq_framerView {f : BitVec 32} {p : Byte} {s t : State} (h : execCmdSetFreq f p s = .next t) :
    framerView t = framerView s := by
  unfold execCmdSetFreq at h
  split at h <;> exact Host.Outcome.next.inj h ▸ rfl

theorem execBerRead_framerView {n : BitVec 3} {s t : State} (h : execBerRead n s = .next t) :
    framerView t = framerView s := by
  unfold execBerRead at h
  split at h <;> exact Host.Outcome.next.inj h ▸ rfl

/-- The rows not named in the cases below are those of the received frames. -/
theorem exec_framerView {i : Instr} {s t : State} (h : exec i s = .next t) (hrxb : ∀ b, i ≠ .rxb b)
    (hrxerr : ∀ v d, i ≠ .rxerr v d) (hreset : i ≠ .reset) : framerView t = framerView s := by
  cases i with
  | rxb b => exact absurd rfl (hrxb b)
  | rxerr v d => exact absurd rfl (hrxerr v d)
  | reset => exact absurd rfl hreset
  | rxidle d => exact execRxidle_framerView d h
  | cmdSetConfig => exact execCmdSetConfig_framerView h
  | cmdSetFreq => exact execCmdSetFreq_framerView h
  | berRead => exact execBerRead_framerView h
  | clock | cmdGetVersion | cmdGetStatus | txGetVersion | txGetStatus | txSetConfigV1 | txSetConfigV2 | txSetFreq
  | reserved0303 | reserved0505 | reserved0607 | reserved080F | reserved101F | reserved203F | reserved407F
  | reserved80BF | reservedC2C3 | reservedC4C7 | reservedC8CB | reservedCCCD | reservedCECE | reservedD0DF
  | reservedE0FF => exact Host.Outcome.next.inj h ▸ rfl
  | _ => exact Host.Outcome.next.inj h ▸ dispatchFrame_framerView ..

/-- Settles O42, row by row; `RXERR` resets the four registers and no byte. -/
theorem framerRegisterWriters : Obligations.FramerRegisterWriters := by
  unfold Obligations.FramerRegisterWriters
  refine fun i s t h => ⟨exec_framerView h, ?_⟩
  rintro ⟨v, d, rfl⟩
  obtain ⟨_, _, _, _, he⟩ := execRxerr_cases v d s
  exact Host.Outcome.next.inj (he.symm.trans h) ▸ rfl

/-! ## Runs over received bytes -/

/-- A run begins with its first step. -/
theorem feed_cons_next {e : Event} {s t : State} (h : step (present e s) = .next t) (es : List Event) :
    feed (e :: es) s = (feed es t).map (fun r => (r.1, t.out :: r.2)) := by
  simp only [feed, h]
  cases feed es t <;> rfl

/-- A run ends without a state where a step does. -/
theorem feed_cons_stop {e : Event} {s : State} (h : ∀ t, step (present e s) ≠ .next t) (es : List Event) :
    feed (e :: es) s = none := by
  unfold feed
  split
  · next t ht => exact absurd ht (h t)
  · rfl

/-- The bytes are taken in one after the other, with nothing to report. -/
def Absorbs (w : List Byte) (s t : State) : Prop :=
  feed (rxChunk w) s = some (t, List.replicate w.length {})

theorem Absorbs.nil (s : State) : Absorbs [] s s :=
  rfl

theorem Absorbs.cons {b : Byte} {w : List Byte} {s t u : State} (h : execRxb b s = .next t) (hout : t.out = {})
    (hw : Absorbs w t u) : Absorbs (b :: w) s u := by
  have hw : feed (w.map rxbEvent) t = some (u, List.replicate w.length {}) := hw
  rw [Absorbs, rxChunk, List.map_cons, feed_cons_next ((step_rxbEvent b s).trans h), hw, hout]
  rfl

/-- A run goes on from where the absorbed bytes leave the block. -/
theorem Absorbs.feed_append {w : List Byte} {s t : State} (h : Absorbs w s t) (es : List Event) :
    feed (rxChunk w ++ es) s = (feed es t).map (fun r => (r.1, List.replicate w.length ({} : Output) ++ r.2)) := by
  rw [Machine.feed_append, h]
  rfl

/-! ## Reassembly of one frame (40_framer.md R147) -/

/-- The bytes `f` of a frame of declared length `n` are stored, and the next one is of its type or payload. -/
structure Collects (f : List Byte) (n : Nat) (s : State) : Prop where
  state : s.rxState = .awaitType ∨ s.rxState = .awaitPayload
  offset : s.rxOffset = f.length
  length : s.rxLength = n
  bytes : Memory.readRange s.buf 0 f.length = f

/-- Bytes short of the declared length are stored behind those before them (40_framer.md R139, R140). -/
theorem Collects.absorbs {f w : List Byte} {n : Nat} {s : State} (h : Collects f n s)
    (hw : f.length + w.length < n) (hn : n ≤ 65535) : ∃ t, Absorbs w s t ∧ Collects (f ++ w) n t := by
  induction w generalizing f s with
  | nil => exact ⟨s, .nil s, by rwa [List.append_nil]⟩
  | cons b w ih =>
    obtain ⟨hstate, hoff, hlen, hbytes⟩ := h
    rw [List.length_cons] at hw
    have hrun := (execRxb_of_frameByte hstate b).trans
      (rxFrameByte_absorbed (s := s) (by omega : s.rxOffset < 65535) (by omega) b)
    have hstored : Collects (f ++ [b]) n { s with
        buf := Memory.write s.buf s.rxOffset b, rxOffset := s.rxOffset + 1, rxState := .awaitPayload, out := {} } :=
      { state := .inr rfl
        offset := by rw [List.length_append, hoff]; rfl
        length := hlen
        bytes := by
          rw [List.length_append, List.length_singleton, hoff, Memory.readRange_write_snoc, hbytes] }
    obtain ⟨t, ht, hcollects⟩ := ih hstored (by rw [List.length_append, List.length_singleton]; omega)
    exact ⟨t, .cons hrun rfl ht, by rwa [List.append_assoc] at hcollects⟩

theorem Collects.delivers {f : List Byte} {b g : Byte} {n : Nat} {s : State} (h : Collects f n s)
    (hlast : f.length + 1 = n) (hn : n ≤ 65535) (hmarker : (f ++ [b])[0]? = some Config.startMarker)
    (htag : frameTag (f ++ [b]) = some g) : ∃ t, execRxb b s = .next t ∧ Delivers (f ++ [b]) t := by
  obtain ⟨hstate, hoff, hlen, hbytes⟩ := h
  have hframe : Memory.readRange s.buf 0 s.rxOffset ++ [b] = f ++ [b] := by rw [hoff, hbytes]
  rw [← hframe] at hmarker htag ⊢
  obtain ⟨t, hrun, hdelivers, _⟩ := execRxb_delivers hstate (by omega) (by omega) hmarker htag
  exact ⟨t, hrun, hdelivers⟩

/-- The events of the bytes `f` are absorbed but for the last, which delivers the frame `f`. -/
def Reassembles (f : List Byte) (s : State) : Prop :=
  ∃ u, feed (rxChunk f) s = some (u, List.replicate (f.length - 1) ({} : Output) ++ [u.out]) ∧ Delivers f u

/-- A header that leaves the framer with the frame's length, and the rest of that many bytes, reassemble. -/
theorem reassembles_of_header {hdr body : List Byte} {g : Byte} {n : Nat} {s t : State} (hopen : Absorbs hdr s t)
    (hcollects : Collects hdr n t) (hbody : body ≠ []) (hlen : hdr.length + body.length = n) (hn : n ≤ 65535)
    (hmarker : (hdr ++ body)[0]? = some Config.startMarker) (htag : frameTag (hdr ++ body) = some g) :
    Reassembles (hdr ++ body) s := by
  obtain ⟨w, b, rfl⟩ : ∃ w b, body = w ++ [b] := ⟨_, _, (List.dropLast_append_getLast hbody).symm⟩
  rw [List.length_append, List.length_singleton] at hlen
  obtain ⟨v, hw, hv⟩ := hcollects.absorbs (by omega : hdr.length + w.length < n) hn
  rw [← List.append_assoc] at hmarker htag ⊢
  obtain ⟨u, hu, hdelivers⟩ := hv.delivers (by rw [List.length_append]; omega) hn hmarker htag
  have hlast : feed [rxbEvent b] v = some (u, [u.out]) := feed_cons_next ((step_rxbEvent b v).trans hu) []
  refine ⟨u, ?_, hdelivers⟩
  calc
    feed (rxChunk (hdr ++ w ++ [b])) s = feed (rxChunk hdr ++ (rxChunk w ++ [rxbEvent b])) s := by
        simp only [rxChunk, List.map_append, List.append_assoc, List.map_cons, List.map_nil]
    _ = some (u, List.replicate hdr.length {} ++ (List.replicate w.length {} ++ [u.out])) := by
        rw [hopen.feed_append, hw.feed_append, hlast]; rfl
    _ = some (u, List.replicate ((hdr ++ w ++ [b]).length - 1) {} ++ [u.out]) := by
        rw [List.length_append, List.length_append, List.length_singleton, Nat.add_sub_cancel,
          ← List.append_assoc, List.replicate_append_replicate]

/-- The two header bytes of a short frame (40_framer.md R131, R136). -/
theorem shortHeader_collects {s : State} (hs : s.rxState = .awaitStart) {l : Byte} (hmin : 3 ≤ l.toNat)
    (hmax : l.toNat < 250) : ∃ t, Absorbs [0xE0, l] s t ∧ Collects [0xE0, l] l.toNat t := by
  have hlength := (execRxb_of_awaitLength (s := opened s) rfl l).trans (congrArg _ (rxAwaitLength_short hmin hmax _))
  refine ⟨_, .cons (execRxb_marker hs) rfl (.cons hlength rfl (.nil _)), .inl rfl, rfl, rfl, ?_⟩
  show Memory.readRange (Memory.write (Memory.write s.buf 0 0xE0) 1 l) 0 (0 + 1 + 1) = _
  simp only [Nat.zero_add, Memory.readRange_write_snoc]
  rfl

/-- The four header bytes of an extended frame (40_framer.md R131, R135, R137, R138). -/
theorem extHeader_collects {s : State} (hs : s.rxState = .awaitStart) {hi lo : Byte}
    (hmin : 5 ≤ bigEndian16 hi lo) (hmax : bigEndian16 hi lo ≤ 65535) :
    ∃ t, Absorbs [0xE0, 0x00, hi, lo] s t ∧ Collects [0xE0, 0x00, hi, lo] (bigEndian16 hi lo) t := by
  have hhigh := (execRxb_of_awaitExtLen (s := escaped s) rfl hi).trans (rxAwaitExtLen_high rfl hi)
  have hlow := (execRxb_of_awaitExtLen (s := { escaped s with
    buf := Memory.write (escaped s).buf 2 hi, rxOffset := 3, out := {} }) rfl lo).trans (rxAwaitExtLen_low rfl lo)
  simp only [Memory.read_write_same, (validExtLength_iff _).mpr ⟨hmin, hmax⟩, if_true] at hlow
  refine ⟨_, .cons (execRxb_marker hs) rfl (.cons (execRxb_escape s) rfl (.cons hhigh rfl (.cons hlow rfl (.nil _)))),
    .inl rfl, rfl, rfl, ?_⟩
  show Memory.readRange (Memory.write (Memory.write (Memory.write (Memory.write s.buf 0 0xE0) 1 0x00) 2 hi) 3 lo)
    0 (0 + 1 + 1 + 1 + 1) = _
  simp only [Nat.zero_add, Memory.readRange_write_snoc]
  rfl

/-- Every short frame that `mkframe` builds reassembles (40_framer.md R147). -/
theorem reassembles_mkframe {s : State} (hs : s.rxState = .awaitStart) (t : Byte) {p : List Byte}
    (hp : 3 + p.length < 250) : Reassembles (mkframe t p) s := by
  have hbyte : (BitVec.ofNat 8 (3 + p.length)).toNat = 3 + p.length := by
    rw [BitVec.toNat_ofNat]; omega
  obtain ⟨u, hopen, hcollects⟩ := shortHeader_collects hs (l := BitVec.ofNat 8 (3 + p.length)) (by omega) (by omega)
  rw [hbyte] at hcollects
  exact reassembles_of_header hopen hcollects (List.cons_ne_nil t p)
    (by simp only [List.length_cons, List.length_nil]; omega) (by omega) rfl (shortFrame_mkframe t p hp).tag

/-- Every extended frame reassembles (40_framer.md R147). -/
theorem reassembles_mkExtFrame {s : State} (hs : s.rxState = .awaitStart) (t : Byte) {p : List Byte}
    (hp : 5 + p.length ≤ 65535) : Reassembles (mkExtFrame t p) s := by
  have hbytes : bigEndian16 (BitVec.ofNat 8 ((5 + p.length) / 256)) (BitVec.ofNat 8 (5 + p.length)) = 5 + p.length := by
    rw [bigEndian16, BitVec.toNat_ofNat, BitVec.toNat_ofNat]; omega
  obtain ⟨u, hopen, hcollects⟩ := extHeader_collects hs (hi := BitVec.ofNat 8 ((5 + p.length) / 256))
    (lo := BitVec.ofNat 8 (5 + p.length)) (by omega) (by omega)
  rw [hbytes] at hcollects
  exact reassembles_of_header (g := t) hopen hcollects (List.cons_ne_nil t p)
    (by simp only [List.length_cons, List.length_nil]; omega) hp rfl rfl

/-- The marker and a length byte past the short lengths: a framing error, and the framer at its start (40_framer.md
R133). -/
theorem feed_tooLong {s : State} (hs : s.rxState = .awaitStart) {l : Byte} (hl : 250 ≤ l.toNat) :
    ∃ u, feed [rxbEvent 0xE0, rxbEvent l] s = some (u, [{}, u.out]) ∧ u.out.rxStatus = .protocolError ∧
      u.out.cause = .invalidLength ∧ u.out.info = l.toNat ∧ AtStart u := by
  have hlength := (execRxb_of_awaitLength (s := opened s) rfl l).trans (congrArg _ (rxAwaitLength_tooLong hl _))
  have hstart := (invalidLength_framer l.toNat (opened s)).1
  obtain ⟨_, _, _, _, herror⟩ := invalidLength_cases l.toNat (opened s)
  refine ⟨invalidLength l.toNat (opened s), ?_, by rw [herror], by rw [herror], by rw [herror], hstart⟩
  rw [feed_cons_next ((step_rxbEvent _ _).trans (execRxb_marker hs)),
    feed_cons_next ((step_rxbEvent _ _).trans hlength)]
  rfl

/-- Settles O37: a header leads to where the declared number of bytes is collected, in either form; the last byte
delivers them. -/
theorem framerYieldsTheDeclaredLength : Obligations.FramerYieldsTheDeclaredLength := by
  unfold Obligations.FramerYieldsTheDeclaredLength
  refine fun s hs => ⟨fun t p hp => ?short, fun l hl => ?invalid, fun t p hp => ?extended⟩
  case short =>
    obtain ⟨u, hu, hdelivers⟩ := reassembles_mkframe hs t hp
    refine ⟨u, _, _, hu, ?_, fun x hx => List.eq_of_mem_replicate hx ▸ rfl, hdelivers.status, hdelivers.frame,
      hdelivers.start.state⟩
    rw [List.length_replicate, mkframe, List.length_cons, List.length_cons, List.length_cons]
    omega
  case invalid =>
    obtain ⟨u, hu, hstatus, hcause, hinfo, hstart⟩ := feed_tooLong hs hl
    exact ⟨u, _, _, hu, rfl, hstatus, hcause, hinfo, hstart.state⟩
  case extended =>
    obtain ⟨u, hu, hdelivers⟩ := reassembles_mkExtFrame hs t hp
    refine ⟨u, _, _, hu, ?_, fun x hx => List.eq_of_mem_replicate hx ▸ rfl, hdelivers.status, hdelivers.frame,
      hdelivers.start.state⟩
    rw [List.length_replicate, mkExtFrame]
    simp only [List.length_cons]
    omega

/-! ## Noise before a frame (40_framer.md R132, R146) -/

/-- A delivery writes the output record whole: it does not read the one before it. -/
theorem receiveFrame_report (o : Output) (f : List Byte) (s : State) :
    receiveFrame f (report o s) = receiveFrame f s := by
  cases hd : decodeReceived f with
  | error e => simp only [receiveFrame, hd]
  | ok i =>
    simp only [receiveFrame, hd]
    cases i <;> rfl

/-- So does every received byte. -/
theorem execRxb_report (o : Output) (b : Byte) (s : State) : execRxb b (report o s) = execRxb b s := by
  have frameByte : rxFrameByte b (report o s) = rxFrameByte b s := by
    by_cases hoff : s.rxOffset < 65535
    · by_cases hlast : s.rxOffset + 1 = s.rxLength
      · rw [rxFrameByte_last hoff hlast, rxFrameByte_last (s := report o s) hoff hlast]
        exact receiveFrame_report o _ (resetFramer { s with buf := Memory.write s.buf s.rxOffset b })
      · rw [rxFrameByte_absorbed hoff hlast, rxFrameByte_absorbed (s := report o s) hoff hlast]
        rfl
    · have hoff := Nat.not_lt.mp hoff
      rw [rxFrameByte_outside hoff, rxFrameByte_outside (s := report o s) hoff]
  unfold execRxb
  cases hs : s.rxState <;> simp only [report_rxState, hs]
  case awaitType | awaitPayload => exact frameByte
  all_goals rfl

theorem feed_rxChunk_report (o : Output) (b : Byte) (w : List Byte) (s : State) :
    feed (rxChunk (b :: w)) (report o s) = feed (rxChunk (b :: w)) s := by
  simp only [rxChunk, List.map_cons, feed, step_rxbEvent, execRxb_report]

theorem noise_absorbs {s : State} (hs : s.rxState = .awaitStart) {w : List Byte} (hw : ∀ b ∈ w, b ≠ 0xE0) :
    ∃ o, Absorbs w s (report o s) := by
  induction w generalizing s with
  | nil => exact ⟨s.out, .nil s⟩
  | cons b w ih =>
    obtain ⟨hb, hw⟩ := List.forall_mem_cons.mp hw
    obtain ⟨o, ho⟩ := ih (s := report {} s) hs hw
    exact ⟨o, .cons ((execRxb_of_awaitStart hs b).trans (congrArg _ (rxAwaitStart_noise hb s))) rfl ho⟩

/-- Settles O39: noise leaves nothing behind but the output record, which the first byte of the frame overwrites. -/
theorem noiseIsDiscardedUntilAMarker : Obligations.NoiseIsDiscardedUntilAMarker := by
  unfold Obligations.NoiseIsDiscardedUntilAMarker
  intro s w hs hw
  obtain ⟨o, ho⟩ := noise_absorbs hs hw
  refine ⟨⟨report o s, _, ho, rfl, rfl⟩, fun t p hp => ?_⟩
  obtain ⟨u, hu, hdelivers⟩ := reassembles_mkframe hs t hp
  refine ⟨u, _, _, ?_, fun x hx => List.eq_of_mem_replicate hx ▸ rfl, hdelivers.status, hdelivers.frame, hu⟩
  rw [ho.feed_append, rxFrame, mkframe, feed_rxChunk_report]
  exact congrArg _ hu

/-! ## Idle reads between the bytes (40_framer.md R145) -/

/-- What a view of the state and a view of the output record show of an answer: nothing where there is no next state. -/
def observed {α β : Type} (view : State → α) (rep : Output → β) : Result → Option (α × β)
  | .next t => some (view t, rep t.out)
  | .fault _ | .refused _ => none

/-- What they show of a run: the last state, and the records but those of `WOULD_BLOCK`. -/
def observedRun {α β : Type} (view : State → α) (rep : Output → β) (r : Option (State × List Output)) :
    Option (α × List β) :=
  r.map (fun r => (view r.1, (r.2.filter (fun o => o.rxStatus != .wouldBlock)).map rep))

/-- The views do not see an idle read, and a received byte shows the same from states that look alike. `good` is what
the states have in common. -/
structure IdleFree {α β : Type} (view : State → α) (rep : Output → β) (good : State → Prop) : Prop where
  idle : ∀ (d : Byte) {s t : State}, good s → execRxidle d s = .next t → view t = view s ∧ good t
  byte : ∀ (b : Byte) {s s' : State}, view s = view s' →
    observed view rep (execRxb b s) = observed view rep (execRxb b s')
  keeps : ∀ (b : Byte) {s t : State}, good s → execRxb b s = .next t → good t

theorem execRxidle_wouldBlock {d : Byte} {s t : State} (h : execRxidle d s = .next t) :
    t.out.rxStatus = .wouldBlock := by
  obtain ⟨_, _, _, _, he⟩ := execRxidle_cases d s
  exact Host.Outcome.next.inj (he.symm.trans h) ▸ rfl

theorem execRxb_ne_wouldBlock {b : Byte} {s t : State} (h : execRxb b s = .next t) :
    t.out.rxStatus ≠ .wouldBlock := by
  rcases execRxb_cases h with ⟨_, _, rfl⟩ | ⟨_, _, _, _, _, rfl⟩ | ⟨v, _, rfl⟩ | ⟨f, g, _, _, _, _, _, _, rfl⟩
  · nofun
  · nofun
  · obtain ⟨_, _, _, _, he⟩ := invalidLength_cases v s
    rw [he]
    nofun
  · obtain ⟨hstatus, _⟩ := dispatchFrame_out (classOfTag g) f
      (resetFramer { s with buf := Memory.write s.buf s.rxOffset b })
    rw [hstatus]
    nofun

/-- An idle event answers from every state (30_encoding.md R100, 40_framer.md R142). -/
theorem step_of_isIdleEvent {e : Event} (h : isIdleEvent e = true) (s : State) :
    ∃ d t, step (present e s) = .next t ∧ execRxidle d s = .next t := by
  cases e with
  | host op x => cases h
  | transport w =>
    obtain ⟨herr, hvalid⟩ : w.getLsbD 9 = false ∧ w.getLsbD 8 = false := by simpa [isIdleEvent] using h
    have hdecode : decodeEvent (.transport w) = .ok (.rxidle (w.extractLsb' 0 8)) := by
      simp only [decodeEvent, decodeTransport, herr, hvalid, Bool.false_eq_true, if_false]
    exact ⟨w.extractLsb' 0 8, _, step_present hdecode s, rfl⟩

theorem rxChunk_cons (b : Byte) (w : List Byte) : rxChunk (b :: w) = rxbEvent b :: rxChunk w :=
  rfl

section IdleFree

variable {α β : Type} {view : State → α} {rep : Output → β} {good : State → Prop}

/-- Two answers that look alike are both next states that do, or neither is one. -/
theorem observed_eq {r r' : Result} (h : observed view rep r = observed view rep r') :
    (∃ t t', r = .next t ∧ r' = .next t' ∧ view t = view t' ∧ rep t.out = rep t'.out) ∨
    ((∀ t, r ≠ .next t) ∧ ∀ t, r' ≠ .next t) := by
  cases r with
  | next t =>
    cases r' with
    | next t' =>
      obtain ⟨hview, hrep⟩ : view t = view t' ∧ rep t.out = rep t'.out := by simpa [observed] using h
      exact .inl ⟨t, t', rfl, rfl, hview, hrep⟩
    | fault | refused => cases h
  | fault | refused =>
    cases r' with
    | next => cases h
    | fault | refused => exact .inr ⟨by simp, by simp⟩

theorem observedRun_cons_wouldBlock {o : Output} (ho : o.rxStatus = .wouldBlock) (r : Option (State × List Output)) :
    observedRun view rep (r.map (fun r => (r.1, o :: r.2))) = observedRun view rep r := by
  cases r <;> simp [observedRun, ho]

theorem observedRun_cons {o : Output} (ho : o.rxStatus ≠ .wouldBlock) (r : Option (State × List Output)) :
    observedRun view rep (r.map (fun r => (r.1, o :: r.2)))
      = (observedRun view rep r).map (fun q => (q.1, rep o :: q.2)) := by
  cases r <;> simp [observedRun, ho]

/-- A run over bytes with idle reads between them looks like the run over the bytes alone, from a state that looks the
same. -/
theorem IdleFree.observedRun_eq (h : IdleFree view rep good) {es : List Event} {w : List Byte} {s s' : State}
    (hes : es.filter (fun e => !isIdleEvent e) = rxChunk w) (hs : good s) (hview : view s = view s') :
    observedRun view rep (feed es s) = observedRun view rep (feed (rxChunk w) s') := by
  induction es generalizing w s s' with
  | nil =>
    obtain rfl : w = [] := List.map_eq_nil_iff.mp hes.symm
    simp [rxChunk, feed, observedRun, hview]
  | cons e es ih =>
    cases hidle : isIdleEvent e with
    | true =>
      obtain ⟨d, t, hstep, hrun⟩ := step_of_isIdleEvent hidle s
      obtain ⟨hkept, ht⟩ := h.idle d hs hrun
      rw [List.filter_cons_of_neg (by simp [hidle])] at hes
      rw [feed_cons_next hstep, observedRun_cons_wouldBlock (execRxidle_wouldBlock hrun)]
      exact ih hes ht (hkept.trans hview)
    | false =>
      rw [List.filter_cons_of_pos (by simp [hidle])] at hes
      cases w with
      | nil => cases hes
      | cons b w =>
        obtain ⟨rfl, hrest⟩ := List.cons.inj (hes.trans (rxChunk_cons b w))
        rw [rxChunk_cons]
        rcases observed_eq (h.byte b hview) with ⟨t, t', ht, ht', hview, hrep⟩ | ⟨hstop, hstop'⟩
        · rw [feed_cons_next ((step_rxbEvent b s).trans ht), feed_cons_next ((step_rxbEvent b s').trans ht'),
            observedRun_cons (execRxb_ne_wouldBlock ht), observedRun_cons (execRxb_ne_wouldBlock ht'), hrep,
            ih hrest (h.keeps b hs ht) hview]
        · rw [feed_cons_stop (by rwa [step_rxbEvent]), feed_cons_stop (by rwa [step_rxbEvent])]

end IdleFree

/-! ## What the framer shows -/

theorem observed_invalidLength (v : Nat) (s : State) :
    observed framerView framerReport (.next (invalidLength v s))
      = some ((.awaitStart, 0, 0, false, s.buf), (.protocolError, none, none)) := by
  obtain ⟨_, _, _, _, he⟩ := invalidLength_cases v s
  rw [he]
  rfl

theorem observed_receiveFrame {s s' : State} (h : framerView s = framerView s') (f : List Byte) :
    observed framerView framerReport (receiveFrame f s) = observed framerView framerReport (receiveFrame f s') := by
  have shown (c : FrameClass) (s : State) : observed framerView framerReport (.next (dispatchFrame c f s))
      = some (framerView s, (.frameDone, some f, some c)) := by
    obtain ⟨hstatus, hframe, hcls, _⟩ := dispatchFrame_out c f s
    rw [observed, dispatchFrame_framerView, framerReport, hstatus, hframe, hcls]
  rcases receiveFrame_cases f s with ⟨g, hm, hg, he⟩ | ⟨e, he⟩
  · rw [he, receiveFrame_of_tag hm hg, shown, shown, h]
  · rcases receiveFrame_cases f s' with ⟨g, hm, hg, _⟩ | ⟨e', he'⟩
    · cases (receiveFrame_of_tag hm hg s).symm.trans he
    · rw [he, he', observed, observed]

/-- What `RXB` does to the framer's registers and reports of the frame depends on those registers alone. -/
theorem observed_execRxb (b : Byte) {s s' : State} (h : framerView s = framerView s') :
    observed framerView framerReport (execRxb b s) = observed framerView framerReport (execRxb b s') := by
  obtain ⟨hst, hoff, hlen, hext, hbuf⟩ : s.rxState = s'.rxState ∧ s.rxOffset = s'.rxOffset ∧
    s.rxLength = s'.rxLength ∧ s.rxExt = s'.rxExt ∧ s.buf = s'.buf := by simpa only [framerView, Prod.mk.injEq] using h
  have frameByte : observed framerView framerReport (rxFrameByte b s)
      = observed framerView framerReport (rxFrameByte b s') := by
    by_cases hin : s.rxOffset < 65535
    · have hin' : s'.rxOffset < 65535 := hoff ▸ hin
      by_cases hlast : s.rxOffset + 1 = s.rxLength
      · rw [rxFrameByte_last hin hlast, rxFrameByte_last hin' (by rwa [← hoff, ← hlen]), hoff, hbuf]
        exact observed_receiveFrame (by rfl) _
      · rw [rxFrameByte_absorbed hin hlast, rxFrameByte_absorbed hin' (by rwa [← hoff, ← hlen])]
        simp only [observed, framerView, hoff, hlen, hext, hbuf]
    · have hin := Nat.not_lt.mp hin
      rw [rxFrameByte_outside hin, rxFrameByte_outside (hoff ▸ hin)]
  cases hs : s.rxState with
  | awaitStart =>
    rw [execRxb_of_awaitStart hs, execRxb_of_awaitStart (hst ▸ hs), rxAwaitStart, rxAwaitStart]
    split <;> simp only [observed, framerView, report_rxState, report_rxOffset, report_rxLength, report_rxExt,
      report_buf, report_out, hst, hoff, hlen, hext, hbuf]
  | awaitLength =>
    rw [execRxb_of_awaitLength hs, execRxb_of_awaitLength (hst ▸ hs), rxAwaitLength, rxAwaitLength]
    split
    · rw [observed_invalidLength, observed_invalidLength, hbuf]
    · split
      · simp only [observed, framerView, hlen, hbuf]
      · split
        · rw [observed_invalidLength, observed_invalidLength, hbuf]
        · simp only [observed, framerView, hext, hbuf]
  | awaitExtLen =>
    rw [execRxb_of_awaitExtLen hs, execRxb_of_awaitExtLen (hst ▸ hs), rxAwaitExtLen, rxAwaitExtLen, hoff, hbuf]
    split
    · simp only [observed, framerView, hst, hlen, hext]
    · split
      · split
        · simp only [observed, framerView, hext]
        · rw [observed_invalidLength, observed_invalidLength, hbuf]
      · rfl
  | awaitType => rwa [execRxb_of_frameByte (.inl hs), execRxb_of_frameByte (.inl (hst ▸ hs))]
  | awaitPayload => rwa [execRxb_of_frameByte (.inr hs), execRxb_of_frameByte (.inr (hst ▸ hs))]

theorem framer_idleFree : IdleFree framerView framerReport (fun _ => True) where
  idle d _ _ _ h := ⟨execRxidle_framerView d h, trivial⟩
  byte b _ _ h := observed_execRxb b h
  keeps _ _ _ _ _ := trivial

/-! ## What all registers show while no command is awaited -/

theorem track_idle {s : State} (h : s.ackWait = .idle) : track s = s := by
  rcases track_cases s with ⟨_, ht⟩ | ⟨hwait, _⟩
  · exact ht
  · exact absurd h hwait

theorem dispatchFrame_idle (c : FrameClass) (f : List Byte) {s : State} (h : s.ackWait = .idle) :
    (dispatchFrame c f s).ackWait = .idle :=
  dispatchFrame_tracker_keeps (P := fun s => s.ackWait = .idle) (fun _ hs => (track_idle hs).symm ▸ hs)
    (fun _ _ _ _ hack _ hs => hack.trans hs) c f h

theorem execRxb_idle (b : Byte) {s t : State} (hs : s.ackWait = .idle) (h : execRxb b s = .next t) :
    t.ackWait = .idle := by
  rcases execRxb_cases h with ⟨_, _, rfl⟩ | ⟨_, _, _, _, _, rfl⟩ | ⟨v, _, rfl⟩ | ⟨f, g, _, _, _, _, _, _, rfl⟩
  · exact hs
  · exact hs
  · rw [invalidLength, track_idle (by exact hs)]
    exact hs
  · exact dispatchFrame_idle _ f hs

/-- With nothing awaited an idle read changes nothing but the output record, and no received byte reads that. -/
theorem registers_idleFree : IdleFree (report {}) id (fun s => s.ackWait = .idle) where
  idle d s t hs h := by
    obtain rfl := Host.Outcome.next.inj h
    rw [track_idle (by exact hs)]
    exact ⟨rfl, hs⟩
  byte b s _ h := by rw [← execRxb_report {} b s, h, execRxb_report]
  keeps b _ _ hs h := execRxb_idle b hs h

theorem registers_report (o : Output) (s : State) : registers (report o s) = registers s :=
  rfl

/-- Settles O38: both runs look like the run over the bytes alone, to the framer's view from every state and to the
view of all registers where no command is awaited. -/
theorem reassemblyIsChunkIndependent : Obligations.ReassemblyIsChunkIndependent := by
  unfold Obligations.ReassemblyIsChunkIndependent
  intro s w e1 e2 h1 h2
  refine ⟨?_, fun hidle => ?_⟩
  · exact (framer_idleFree.observedRun_eq h1 trivial rfl).trans (framer_idleFree.observedRun_eq h2 trivial rfl).symm
  · have h := (registers_idleFree.observedRun_eq h1 hidle rfl).trans
      (registers_idleFree.observedRun_eq h2 hidle rfl).symm
    have hregisters := congrArg (Option.map (fun q : State × List Output => (registers q.1, q.2))) h
    simpa only [observedRun, Option.map_map, Function.comp_def, List.map_id, registers_report] using hregisters

end Sys2Proof.Proofs

/-! Proofs of the statements on 41_codec.md: the sent commands (R171 to R175), the configuration round trip (R180), the
classes and what a delivered frame does (R182 to R189), the acknowledgement tracker (R191 to R197). -/

namespace Sys2Proof.Proofs

open Sys2Proof.Machine Sys2Proof.Safety Sys2Proof.Claims

/-! ## The configuration round trip -/

/-- What `decode_cfg` reads from a frame whose preconditions hold (41_codec.md R179). -/
def fieldsOf (l : Layout) (g : List Byte) : FixedFields where
  flag := fun n => (g.getD (l.flag n).off 0).getLsbD (l.flag n).bit == ((l.flag n).pol == Polarity.pos)
  mode := firstByte g l.mode
  dc := fun k => decDc (firstByte g (l.dc k))
  levelByte := fun k => firstByte g (l.level k)

theorem decodeCfg_eq_fieldsOf {l : Layout} {g : List Byte} (hlength : g.length = l.total)
    (hmarker : g[0]? = some Config.startMarker) (hsecond : (g[1]?).map BitVec.toNat = some l.total)
    (htag : g[2]? = some Config.tagSetConfig) : decodeCfg l g = some (fieldsOf l g) :=
  if_pos ⟨hlength, hmarker, hsecond, htag⟩

/-- An encoded configuration meets the preconditions of the decoder: below 250 the length byte is the length. -/
theorem decodeCfg_encodeCfg {l : Layout} {n : Nat} (hwf : l.wf n) (hn : n < 250) (c : Cfg) :
    decodeCfg l (encodeCfg l c) = some (fieldsOf l (encodeCfg l c)) := by
  have hlength := (shortFrame_encodeCfg hwf c hn).length
  obtain ⟨htotal, _⟩ := hwf
  have hsecond : (BitVec.ofNat 8 l.total).toNat = l.total := by
    rw [BitVec.toNat_ofNat]; omega
  exact decodeCfg_eq_fieldsOf (hlength.trans htotal.symm) rfl (congrArg some hsecond) rfl

/-- Where every index of a list holds one byte, its first index does. -/
theorem firstByte_eq {g : List Byte} {is : List Nat} {b : Byte} (hne : is ≠ []) (h : ∀ i ∈ is, g[i]? = some b) :
    firstByte g is = b := by
  obtain ⟨i, is, rfl⟩ := List.exists_cons_of_ne_nil hne
  rw [firstByte, List.headD_cons, List.getD_eq_getElem?_getD, h i (List.mem_cons_self ..), Option.getD_some]

theorem layout_dc_ne_nil {l : Layout} {n : Nat} (hwf : l.wf n) (k : Side) : l.dc k ≠ [] := by
  obtain ⟨_, ⟨_, htx, hrx, _⟩, _⟩ := hwf
  cases k
  · exact htx
  · exact hrx

theorem layout_level_ne_nil {l : Layout} {n : Nat} (hwf : l.wf n) (k : Side) : l.level k ≠ [] := by
  obtain ⟨_, ⟨_, _, _, hrx, htx⟩, _⟩ := hwf
  cases k
  · exact htx
  · exact hrx

theorem decDc_encDc_of_valid {c : Cfg} (hc : c.valid) (k : Side) : decDc (encDc (c.dc k)) = c.dc k := by
  obtain ⟨⟨htx0, htx1⟩, ⟨hrx0, hrx1⟩, _⟩ := hc
  cases k
  · exact decDc_encDc htx0 htx1
  · exact decDc_encDc hrx0 hrx1

theorem modeByte_toNat_of_valid {c : Cfg} (hc : c.valid) : ((modeByte c).toNat : Int) = c.mode := by
  obtain ⟨_, _, _, _, h0, h1⟩ := hc
  exact toNat_ofInt_byte h0 (by omega)

/-- Settles O50: the decoder reads each field where the frame's shape puts it, a flag by the polarity it was stored with
(30_encoding.md R110). -/
theorem configurationRoundTrip : Obligations.ConfigurationRoundTrip := by
  unfold Obligations.ConfigurationRoundTrip
  intro l n c hwf hn hc
  obtain ⟨_, _, _, hmode, hdc, hlevel, hflag, _⟩ := configurationFrameShape l n c hwf hn
  refine ⟨_, decodeCfg_encodeCfg hwf hn c, fun f => ?flag, ?mode, fun k => ?dc, fun k => ?level⟩
  case flag =>
    simp only [fieldsOf, hflag f]
    exact Bool.beq_self_right _ _
  case mode =>
    obtain ⟨_, ⟨hne, _⟩, _⟩ := hwf
    simp only [fieldsOf, firstByte_eq hne hmode]
    exact modeByte_toNat_of_valid hc
  case dc =>
    simp only [fieldsOf, firstByte_eq (layout_dc_ne_nil hwf k) (hdc k)]
    exact decDc_encDc_of_valid hc k
  case level => exact firstByte_eq (layout_level_ne_nil hwf k) (hlevel k)

/-! ## The class of a received frame -/

theorem isExtended_iff (f : List Byte) : isExtended f = true ↔ f[1]? = some 0 := by
  have hescape (b : Byte) : b.toNat = Config.extLenEscape ↔ b = 0 :=
    ⟨fun h => BitVec.eq_of_toNat_eq h, fun h => h ▸ rfl⟩
  cases h : f[1]? <;> simp [isExtended, h, hescape]

/-- The tag stands after the length byte, or after the two bytes of the extended length (30_encoding.md R92). -/
theorem frameTag_eq_getElem? (f : List Byte) : frameTag f = f[if f[1]? = some 0 then 4 else 2]? := by
  rw [frameTag, headerLength]
  by_cases h : f[1]? = some 0
  · rw [if_pos ((isExtended_iff f).mpr h), if_pos h]
  · rw [if_neg (mt (isExtended_iff f).mp h), if_neg h]

/-- A sequence with marker and tag decodes to a row, and that row delivers it with the class of the tag. -/
theorem decodeReceived_of_tag {f : List Byte} {t : Byte} (hm : f[0]? = some Config.startMarker)
    (ht : frameTag f = some t) :
    ∃ i, decodeReceived f = .ok i ∧ ∀ s, exec i s = .next (dispatchFrame (classOfTag t) f s) := by
  obtain ⟨r, hr⟩ := Option.isSome_iff_exists.mp (receivedTable_covers t)
  have hmatch := List.find?_some hr
  have hdecode := decodeReceived_of_row (List.mem_of_find?_eq_some hr) hm ht hmatch
  exact ⟨_, hdecode, fun s => (receiveFrame_eq_exec hdecode s).symm.trans (receiveFrame_of_tag hm ht s)⟩

/-- Settles O6: the tag is found in either form, and its row dispatches with its class. -/
theorem receivedFrameRunsTheRowOfItsTag : Obligations.ReceivedFrameRunsTheRowOfItsTag := by
  unfold Obligations.ReceivedFrameRunsTheRowOfItsTag
  intro f t s hm ht
  obtain ⟨i, hdecode, hexec⟩ := decodeReceived_of_tag hm ((frameTag_eq_getElem? f).trans ht)
  obtain ⟨hstatus, hframe, hcls, _⟩ := dispatchFrame_out (classOfTag t) f s
  exact ⟨i, _, hdecode, hexec s, hstatus, hframe, hcls⟩

/-! ## The tracker's invariants and the end of a wait -/

/-- Settles O33: the event of a step passes the tests of its command, so its transition keeps the invariants. -/
theorem trackerInvariantsHold : Obligations.TrackerInvariantsHold := by
  unfold Obligations.TrackerInvariantsHold
  exact ⟨trackerInv_reset, fun s t => step_keeps (P := TrackerInv) (fun _ _ hs => hs)
    (fun _ _ _ _ hi hs hrun => (exec_transition hrun).trackerInv (not_armsUntested_of_decodeEvent hi) hs)⟩

/-- The command stays awaited, and the step cost one of its attempts if it ended a poll (41_codec.md R192, R195). -/
def StillAwaits (s t : State) : Prop :=
  t.ackWait = s.ackWait ∧ t.ackTries = s.ackTries + (if t.out.rxStatus = .cont then 0 else 1) ∧ t.ackTries < 30

/-- A step that ends no poll and leaves the tracker's registers alone. -/
theorem stillAwaits_of_cont {s t : State} (hs : s.ackTries < 30) (hwait : t.ackWait = s.ackWait)
    (htries : t.ackTries = s.ackTries) (hcont : t.out.rxStatus = .cont) : StillAwaits s t :=
  ⟨hwait, by rw [if_pos hcont, htries, Nat.add_zero], htries ▸ hs⟩

/-- The step reports the end of the wait, or the wait goes on. -/
def EndsOrAwaits (s t : State) : Prop :=
  t.out.link ≠ .none ∨ StillAwaits s t

section Awaited

variable {s t : State} (hwait : s.ackWait ≠ .idle) (hs : s.ackTries < 30)

include hwait hs

theorem track_endsOrAwaits : EndsOrAwaits s (track s) := by
  rcases track_cases s with ⟨hidle | hcont, ht⟩ | ⟨_, hpoll, ⟨_, ht⟩ | ⟨_, _, _, ht⟩ | ⟨_, _, ht⟩ | ⟨_, hmore, ht⟩⟩ <;>
    rw [ht]
  · exact absurd hidle hwait
  · exact .inr (stillAwaits_of_cont hs rfl rfl hcont)
  · exact .inl nofun
  · exact .inl nofun
  · exact .inl nofun
  · exact .inr ⟨rfl, by rw [if_neg hpoll], Nat.lt_of_le_of_ne hs hmore⟩

/-- Of a delivery only the tracker writes the tracker's registers and the link. -/
theorem dispatchFrame_endsOrAwaits (c : FrameClass) (f : List Byte) : EndsOrAwaits s (dispatchFrame c f s) := by
  have hdeliver : EndsOrAwaits s (track (deliver f c s)) := track_endsOrAwaits (s := deliver f c s) hwait hs
  rw [dispatchFrame_eq]
  split
  · rw [berDispatch_keeps]
    exact hdeliver
  · split
    · rw [decodeVersion_keeps]
      exact track_endsOrAwaits (s := { deliver f c s with protoVersion := _, hwType := _, out := _ }) hwait hs
    · exact hdeliver

theorem execRxb_endsOrAwaits {b : Byte} (h : execRxb b s = .next t) : EndsOrAwaits s t := by
  rcases execRxb_cases h with ⟨_, _, rfl⟩ | ⟨_, _, _, _, _, rfl⟩ | ⟨v, _, rfl⟩ | ⟨f, g, _, _, _, _, _, _, rfl⟩
  · exact .inr (stillAwaits_of_cont hs rfl rfl rfl)
  · exact .inr (stillAwaits_of_cont hs rfl rfl rfl)
  · exact track_endsOrAwaits (s := raiseError .protocolError .invalidLength v s) hwait hs
  · exact dispatchFrame_endsOrAwaits (s := resetFramer { s with buf := Memory.write s.buf s.rxOffset b }) hwait hs _ f

/-- What a transition that reports `CONTINUE` does while a command is awaited, a reset aside: the commands that would
arm the tracker are refused (41_codec.md R173, R174). -/
theorem Transition.endsOrAwaits {i : Instr} (h : Transition s i t) (harms : ¬ ArmsUntested i) (hreset : i ≠ .reset)
    (hcont : t.out.rxStatus = .cont) : EndsOrAwaits s t := by
  cases h with
  | reported | ticked => exact .inr (stillAwaits_of_cont hs rfl rfl hcont)
  | sentConfig _ _ htests => exact absurd (htests harms).1 hwait
  | sentFreq _ htests => exact absurd (htests harms) hwait
  | reset => exact absurd rfl hreset
  | polled v o => exact track_endsOrAwaits (s := report o (withFramer v s)) hwait hs
  | delivered v c f => exact dispatchFrame_endsOrAwaits (s := withFramer v s) hwait hs c f

end Awaited

theorem HostOutput.rxStatus_eq {b : BerBanks} {o : Output} (h : HostOutput b o) : o.rxStatus = .cont := by
  cases h <;> rfl

/-- Only the opcode CF decodes to `RESET` (30_encoding.md R102). -/
theorem ne_reset_of_decodeEvent {e : Event} {i : Instr} (hi : decodeEvent e = .ok i) (he : isResetEvent e = false) :
    i ≠ .reset := by
  rintro rfl
  cases e with
  | transport w =>
    simp only [decodeEvent, decodeTransport] at hi
    split at hi
    · cases hi
    · split at hi <;> cases hi
  | host op x =>
    have hop : op ≠ 0xCF := ne_of_beq_false he
    simp only [decodeEvent, decodeHost] at hi
    split at hi
    · next r hr =>
      have hmatch := List.find?_some hr
      have hmem := List.mem_of_find?_eq_some hr
      obtain ⟨hmask, hpattern⟩ : r.mask = 0xFF ∧ r.pattern = 0xCF := by
        fin_cases hmem <;> first | exact ⟨rfl, rfl⟩ | cases hi
      rw [hmask, hpattern] at hmatch
      exact hop ((BitVec.and_allOnes (x := op)).symm.trans (eq_of_beq hmatch))
    · cases hi

theorem step_endsOrAwaits {e : Event} {s t : State} (hwait : s.ackWait ≠ .idle) (hs : s.ackTries < 30)
    (he : isResetEvent e = false) (h : step (present e s) = .next t) : EndsOrAwaits s t := by
  obtain ⟨i, hi⟩ := decodeEvent_total e
  rw [step_present hi] at h
  have harms := not_armsUntested_of_decodeEvent hi
  have hreset := ne_reset_of_decodeEvent hi he
  rcases decodeEvent_cases hi with ⟨v, d, rfl⟩ | ⟨b, rfl⟩ | ⟨d, rfl⟩ | ⟨r, hr, op, x, rfl⟩
  · exact Host.Outcome.next.inj h ▸
      track_endsOrAwaits (s := raiseError .transportError .transportReadError 0 s) hwait hs
  · exact execRxb_endsOrAwaits hwait hs h
  · exact Host.Outcome.next.inj h ▸ track_endsOrAwaits (s := report { rxStatus := .wouldBlock } s) hwait hs
  · exact (exec_transition h).endsOrAwaits hwait hs harms hreset (exec_hostOutput hr h).rxStatus_eq

/-- A run that ends in a state began with a step, whose record comes first. -/
theorem feed_cons_some {e : Event} {es : List Event} {s t : State} {os : List Output}
    (h : feed (e :: es) s = some (t, os)) :
    ∃ u ps, step (present e s) = .next u ∧ feed es u = some (t, ps) ∧ os = u.out :: ps := by
  by_cases hstep : ∃ u, step (present e s) = .next u
  · obtain ⟨u, hu⟩ := hstep
    rw [feed_cons_next hu, Option.map_eq_some_iff] at h
    obtain ⟨⟨_, ps⟩, hps, heq⟩ := h
    obtain ⟨rfl, rfl⟩ := Prod.mk.inj heq
    exact ⟨u, ps, hu, hps, rfl⟩
  · rw [feed_cons_stop (fun u hu => hstep ⟨u, hu⟩)] at h
    cases h

/-- While no step of a run reports the end of the wait, its attempts stay below thirty (41_codec.md R192). -/
theorem attempts_lt_of_no_link {es : List Event} {s t : State} {os : List Output} (hwait : s.ackWait ≠ .idle)
    (hs : s.ackTries < 30) (hes : ∀ e ∈ es, isResetEvent e = false) (h : feed es s = some (t, os))
    (hlink : ∀ o ∈ os, o.link = .none) :
    s.ackTries + (os.filter (fun o => o.rxStatus != .cont)).length < 30 := by
  induction es generalizing s os with
  | nil =>
    obtain ⟨-, rfl⟩ := Prod.mk.inj (Option.some.inj h)
    exact hs
  | cons e es ih =>
    obtain ⟨he, hes⟩ := List.forall_mem_cons.mp hes
    obtain ⟨u, ps, hstep, hps, rfl⟩ := feed_cons_some h
    obtain ⟨hlink, hlinks⟩ := List.forall_mem_cons.mp hlink
    obtain hend | ⟨hkept, htries, hbelow⟩ := step_endsOrAwaits hwait hs he hstep
    · exact absurd hlink hend
    · have hrest := ih (hkept ▸ hwait) hbelow hes hps hlinks
      by_cases hcont : u.out.rxStatus = .cont
      · rw [if_pos hcont] at htries
        rw [List.filter_cons_of_neg (by simp [hcont])]
        omega
      · rw [if_neg hcont] at htries
        rw [List.filter_cons_of_pos (by simp [hcont]), List.length_cons]
        omega

/-- Settles O35: a run without a link report has fewer than thirty attempts. -/
theorem awaitedCommandAlwaysEnds : Obligations.AwaitedCommandAlwaysEnds := by
  unfold Obligations.AwaitedCommandAlwaysEnds
  intro s t es os hwait hs hes h hcount
  by_contra hnone
  have hlink : ∀ o ∈ os, o.link = .none := by simpa using hnone
  exact absurd (attempts_lt_of_no_link hwait hs hes h hlink) (Nat.not_lt.mpr hcount)

/-! ## Silence (41_codec.md R196) -/

theorem attempted_of_last {s : State} (hwait : s.ackWait ≠ .idle) (hlast : s.ackTries + 1 = 30) :
    attempted s = { s with
      cfgPending := s.cfgCommitted, ackWait := .idle, ackTries := 0, out := { s.out with link := .unresponsive } } :=
  (if_neg hwait).trans (if_pos hlast)

theorem attempted_of_more {s : State} (hwait : s.ackWait ≠ .idle) (hmore : s.ackTries + 1 ≠ 30) :
    attempted s = { s with ackTries := s.ackTries + 1 } :=
  (if_neg hwait).trans (if_neg hmore)

/-- The state after an awaited command was given up in silence. -/
def silenced (s : State) : State :=
  { s with
    cfgPending := s.cfgCommitted, ackWait := .idle, ackTries := 0
    out := { rxStatus := .wouldBlock, link := .unresponsive } }

theorem step_rxidleEvent_attempted (s : State) :
    step (present rxidleEvent s) = .next (attempted (report { rxStatus := .wouldBlock } s)) :=
  (step_rxidleEvent s).trans (wouldBlockKeepsThePosition 0 s)

/-- With `n + 1` attempts left the last of as many idle reads gives up, and none before it. -/
theorem feed_silence {n : Nat} {s : State} (hwait : s.ackWait ≠ .idle) (hleft : s.ackTries + (n + 1) = 30) :
    feed (List.replicate (n + 1) rxidleEvent) s = some (silenced s,
      List.replicate n { rxStatus := .wouldBlock } ++ [{ rxStatus := .wouldBlock, link := .unresponsive }]) := by
  induction n generalizing s with
  | zero =>
    have hstep := step_rxidleEvent_attempted s
    rw [attempted_of_last (s := report { rxStatus := .wouldBlock } s) hwait hleft] at hstep
    exact feed_cons_next hstep []
  | succ n ih =>
    have hstep := step_rxidleEvent_attempted s
    rw [attempted_of_more (s := report { rxStatus := .wouldBlock } s) hwait (by rw [report_ackTries]; omega)] at hstep
    rw [List.replicate_succ, feed_cons_next hstep, ih (by exact hwait) (by show s.ackTries + 1 + (n + 1) = 30; omega)]
    rfl

/-- Settles O36, with all thirty attempts left. -/
theorem silenceEndsUnresponsive : Obligations.SilenceEndsUnresponsive := by
  unfold Obligations.SilenceEndsUnresponsive
  exact fun s hwait htries => feed_silence hwait (by rw [htries])

/-! ## The sent commands -/

/-- Settles O18: the two commands run the two sent frames, which make no test. -/
theorem requestsSendTheirThreeBytes : Obligations.RequestsSendTheirThreeBytes := by
  unfold Obligations.RequestsSendTheirThreeBytes
  exact fun s => ⟨rfl, rfl, rfl, rfl⟩

theorem awaiting_eq_true_iff (s : State) : awaiting s = true ↔ s.ackWait ≠ .idle :=
  bne_iff_ne

theorem not_awaiting_of_idle {s : State} (hidle : s.ackWait = .idle) : ¬ awaiting s = true :=
  mt (awaiting_eq_true_iff s).mp (not_not_intro hidle)

theorem execCmdSetFreq_busy {s : State} (hwait : s.ackWait ≠ .idle) (f : BitVec 32) (p : Byte) :
    execCmdSetFreq f p s = .next (refuse .busy 0x04 s) :=
  if_pos ((awaiting_eq_true_iff s).mpr hwait)

theorem execCmdSetFreq_accepted {s : State} (hidle : s.ackWait = .idle) (f : BitVec 32) (p : Byte) :
    execCmdSetFreq f p s = execTxSetFreq f p s :=
  if_neg (not_awaiting_of_idle hidle)

/-- The frame of SET_FREQ, byte by byte (41_codec.md R173, 30_encoding.md R107). -/
theorem mkframe_freqPayload (f : BitVec 32) (p : Byte) :
    mkframe Config.tagSetFreq (freqPayload f p) =
      [0xE0, 0x0D, 0x04, 0x00,
        f.extractLsb' 0 8, f.extractLsb' 8 8, f.extractLsb' 16 8, f.extractLsb' 24 8,
        f.extractLsb' 0 8, f.extractLsb' 8 8, f.extractLsb' 16 8, f.extractLsb' 24 8, p] :=
  rfl

/-- Settles O19: an accepted command runs the sent frame, which sends the thirteen bytes and arms the tracker. -/
theorem setFreqSendsThirteenBytesOrIsBusy : Obligations.SetFreqSendsThirteenBytesOrIsBusy := by
  unfold Obligations.SetFreqSendsThirteenBytesOrIsBusy
  intro f p s
  rw [← mkframe_freqPayload]
  exact ⟨fun hidle => execCmdSetFreq_accepted hidle f p, rfl, fun hwait => execCmdSetFreq_busy hwait f p⟩

theorem execCmdSetConfig_busy {s : State} (hwait : s.ackWait ≠ .idle) (c : Cfg) :
    execCmdSetConfig c s = .next (refuse .busy 0x02 s) :=
  if_pos ((awaiting_eq_true_iff s).mpr hwait)

section NoCommandAwaited

variable {s : State} (hidle : s.ackWait = .idle)

include hidle

theorem execCmdSetConfig_notNegotiated (hversion : s.protoVersion = none) (c : Cfg) :
    execCmdSetConfig c s = .next (refuse .notNegotiated 0x02 s) := by
  rw [execCmdSetConfig, if_neg (not_awaiting_of_idle hidle), hversion]

theorem execCmdSetConfig_badOperand {v : ProtoVersion} (hversion : s.protoVersion = some v) {c : Cfg}
    (hc : ¬ c.valid) : execCmdSetConfig c s = .next (refuse .badOperand 0x02 s) := by
  rw [execCmdSetConfig, if_neg (not_awaiting_of_idle hidle), hversion]
  exact if_neg hc

/-- The negotiated version chooses the layout (41_codec.md R174). -/
theorem execCmdSetConfig_accepted {v : ProtoVersion} (hversion : s.protoVersion = some v) {c : Cfg} (hc : c.valid) :
    execCmdSetConfig c s = .next (sendConfig (if v = .v1 then Config.layoutV1 else Config.layoutV2) c s) := by
  rw [execCmdSetConfig, if_neg (not_awaiting_of_idle hidle), hversion]
  cases v <;> exact if_pos hc

end NoCommandAwaited

/-- Settles O20: what a sent configuration writes, and the command that sends it. -/
theorem setConfigSendsTheLayoutOfItsVersion : Obligations.SetConfigSendsTheLayoutOfItsVersion := by
  unfold Obligations.SetConfigSendsTheLayoutOfItsVersion
  exact fun c s => ⟨rfl, rfl, fun v hidle hversion hc => execCmdSetConfig_accepted hidle hversion hc⟩

/-- Settles O21, one branch of the command at a time in the order of its tests. -/
theorem setConfigIsAcceptedOrRefusedInOrder : Obligations.SetConfigIsAcceptedOrRefusedInOrder := by
  unfold Obligations.SetConfigIsAcceptedOrRefusedInOrder
  intro c s
  by_cases hidle : s.ackWait = .idle
  · rw [if_neg (not_not_intro hidle)]
    by_cases hnone : s.protoVersion = none
    · rw [if_pos hnone]
      exact execCmdSetConfig_notNegotiated hidle hnone c
    · obtain ⟨v, hversion⟩ := Option.ne_none_iff_exists'.mp hnone
      rw [if_neg hnone]
      by_cases hc : c.valid
      · have hlayout : (if s.protoVersion = some .v1 then Config.layoutV1 else Config.layoutV2)
            = if v = .v1 then Config.layoutV1 else Config.layoutV2 := by
          simp only [hversion, Option.some.injEq]
        rw [if_neg (not_not_intro hc), hlayout]
        exact execCmdSetConfig_accepted hidle hversion hc
      · rw [if_pos hc]
        exact execCmdSetConfig_badOperand hidle hversion hc
  · rw [if_pos hidle]
    exact execCmdSetConfig_busy hidle c

/-! ## What a delivered frame does -/

/-- A class that only reports: neither the decoder nor the bank reads its frames, and no tracker rule names it. -/
theorem dispatchFrame_passesThrough {c : FrameClass} (hc : c = .status ∨ c = .other ∨ c = .debug) (f : List Byte)
    (s : State) : dispatchFrame c f s = attempted (delivered f c s) := by
  rw [dispatchFrame_eq]
  rcases hc with rfl | rfl | rfl <;>
    exact track_eq_attempted (s := deliver f _ s) nofun nofun nofun

theorem passesThrough_of_dispatch {row : List Byte → Instr} {c : FrameClass}
    (hc : c = .status ∨ c = .other ∨ c = .debug) (hrow : ∀ f s, exec (row f) s = .next (dispatchFrame c f s)) :
    PassesThrough row c := fun f s =>
  (hrow f s).trans (congrArg _ (dispatchFrame_passesThrough hc f s))

/-- Settles O25: every one of the rows dispatches its frame with its class. -/
theorem statusDebugOtherPassThrough : Obligations.StatusDebugOtherPassThrough := by
  unfold Obligations.StatusDebugOtherPassThrough
  have status {row} := passesThrough_of_dispatch (row := row) (.inl rfl)
  have other {row} := passesThrough_of_dispatch (row := row) (.inr (.inl rfl))
  have debug {row} := passesThrough_of_dispatch (row := row) (.inr (.inr rfl))
  exact ⟨status fun _ _ => rfl, other fun _ _ => rfl, other fun _ _ => rfl, other fun _ _ => rfl,
    other fun _ _ => rfl, other fun _ _ => rfl, other fun _ _ => rfl, other fun _ _ => rfl, other fun _ _ => rfl,
    other fun _ _ => rfl, other fun _ _ => rfl, other fun _ _ => rfl, other fun _ _ => rfl, other fun _ _ => rfl,
    other fun _ _ => rfl, debug fun _ _ => rfl, debug fun _ _ => rfl, debug fun _ _ => rfl, debug fun _ _ => rfl,
    debug fun _ _ => rfl, other fun _ _ => rfl, other fun _ _ => rfl⟩

/-- The board of a description, with the default prefixes written out (41_codec.md R187). -/
theorem board_eq (desc : List Byte) :
    board desc =
      if [0x5A, 0x55, 0x4D, 0x73, 0x70, 0x6F, 0x74].isPrefixOf desc then some .hotspotVariant
      else if [0x4D, 0x4D, 0x44, 0x56, 0x4D, 0x20].isPrefixOf desc then some .generic
      else none := by
  simp only [board, Config.hotspotPrefixes, Config.genericPrefixes, List.any_cons, List.any_nil, Bool.or_false]

/-- The second half of the decoder, for the offset of its version, in the terms of the statement. -/
theorem decodeBoard_eq (f : List Byte) (v : ProtoVersion) (o : Nat) (s : State) :
    decodeBoard f v o s =
      if f.length < o then failed .malformedResponse f.length s
      else if [0x5A, 0x55, 0x4D, 0x73, 0x70, 0x6F, 0x74].isPrefixOf (f.drop o) then
        { s with protoVersion := some v, hwType := some .hotspotVariant }
      else if [0x4D, 0x4D, 0x44, 0x56, 0x4D, 0x20].isPrefixOf (f.drop o) then
        { s with protoVersion := some v, hwType := some .generic }
      else failed .boardNotSupported 0 s := by
  rw [decodeBoard, board_eq]
  split_ifs <;> rfl

/-- The decoder by its version byte: absent, 1, 2, or unsupported (41_codec.md R186). -/
theorem decodeVersion_eq_versionDecoded (f : List Byte) (s : State) : decodeVersion f s = versionDecoded f s := by
  have hoffset : Config.versionByteOffset = 3 := rfl
  rw [decodeVersion, versionDecoded, hoffset]
  by_cases hlen : f.length ≤ 3
  · rw [if_pos hlen, List.getElem?_eq_none hlen]
    rfl
  · have hbyte : f[3]? = some (f.getD 3 0) := by
      rw [List.getD_eq_getElem?_getD, List.getElem?_eq_getElem (Nat.lt_of_not_le hlen), Option.getD_some]
    rw [if_neg hlen, hbyte]
    generalize f.getD 3 0 = v
    by_cases h1 : v = 1
    · subst h1
      exact decodeBoard_eq f .v1 4 s
    · by_cases h2 : v = 2
      · subst h2
        exact decodeBoard_eq f .v2 23 s
      · simp only [if_neg h1, if_neg h2, if_pos (And.intro h1 h2)]
        rfl

/-- Settles O26: the decoder runs on the delivery, then the tracker counts an attempt. -/
theorem versionResponseDecodes : Obligations.VersionResponseDecodes := by
  unfold Obligations.VersionResponseDecodes
  intro f s
  have hpoll : track (decodeVersion f (deliver f .version s)) = attempted (decodeVersion f (deliver f .version s)) := by
    apply track_eq_attempted <;> rw [decodeVersion_keeps] <;> nofun
  have hdelivered : deliver f .version s = delivered f .version s := rfl
  rw [decodeVersion_eq_versionDecoded, hdelivered] at hpoll
  refine congrArg Host.Outcome.next ?_
  rw [dispatchFrame_eq, if_neg nofun, if_pos rfl, decodeVersion_eq_versionDecoded, hdelivered, hpoll]

theorem track_eq_acked {s : State} (hwait : s.ackWait ≠ .idle) (hpoll : s.out.rxStatus ≠ .cont)
    (hack : s.out.cls = some .ack) : track s = acked s := by
  rcases track_cases s with ⟨h, _⟩ | ⟨_, _, ⟨_, ht⟩ | ⟨_, hnak, _⟩ | ⟨h, _⟩ | ⟨h, _⟩⟩
  · exact absurd h (not_or.mpr ⟨hwait, hpoll⟩)
  · exact ht
  · cases hack.symm.trans hnak
  · exact absurd hack h
  · exact absurd hack h

theorem track_eq_naked {f : List Byte} {s : State} (hwait : s.ackWait ≠ .idle) (hpoll : s.out.rxStatus ≠ .cont)
    (hnak : s.out.cls = some .nak) (hframe : s.out.frame = some f) : track s = naked f s := by
  have hguard : (awaiting s && endsPoll s.out.rxStatus) = true := by simp [awaiting, endsPoll, hwait, hpoll]
  simp only [track, hguard, if_true, hnak, hframe]

/-- The byte at an index, where the list is long enough for one. -/
theorem getElem?_eq_ite_getD (f : List Byte) (k : Nat) : f[k]? = if f.length > k then some (f.getD k 0) else none := by
  split
  · next h => rw [List.getD_eq_getElem?_getD, List.getElem?_eq_getElem h, Option.getD_some]
  · next h => exact List.getElem?_eq_none (Nat.le_of_not_lt h)

/-- Settles O27: with a command awaited the tracker takes the ACK or the NAK, with none it does nothing. -/
theorem ackCommitsAndNakRestores : Obligations.AckCommitsAndNakRestores := by
  unfold Obligations.AckCommitsAndNakRestores
  intro f s
  refine ⟨congrArg Host.Outcome.next ?ack, congrArg Host.Outcome.next ?nak⟩
  case ack =>
    rw [dispatchFrame_eq, if_neg nofun, if_neg nofun]
    split
    · next hidle => exact track_idle (s := deliver f .ack s) hidle
    · next hwait => exact track_eq_acked (s := deliver f .ack s) hwait nofun rfl
  case nak =>
    rw [dispatchFrame_eq, if_neg nofun, if_neg nofun, ← getElem?_eq_ite_getD]
    split
    · next hidle => exact track_idle (s := deliver f .nak s) hidle
    · next hwait => exact track_eq_naked (s := deliver f .nak s) hwait nofun rfl rfl

end Sys2Proof.Proofs

/-! Proofs of the statements on 42_fec_ber.md: the bit-error primitive and the checker (R220 to R224), and the checker
bank with its scores, ticks and reports (R233 to R240). -/

namespace Sys2Proof.Proofs

open Sys2Proof.Machine Sys2Proof.Safety Sys2Proof.Claims

/-! ## Counting the differing bits of two bytes -/

/-- The library's recursion over the positions counts the set bits below `n`. -/
theorem cpopNatRec_eq_countP {w : Nat} (x : BitVec w) (n acc : Nat) :
    x.cpopNatRec n acc = acc + (List.range n).countP (fun i => x.getLsbD i) := by
  induction n generalizing acc with
  | zero => rfl
  | succ n ih =>
    have hbit : (if x.getLsbD n = true then 1 else 0) = (x.getLsbD n).toNat := by
      cases x.getLsbD n <;> rfl
    rw [BitVec.cpopNatRec_succ, ih, List.range_succ, List.countP_append, List.countP_singleton, hbit]
    omega

theorem countErrs_eq_cpop (a b : Byte) : countErrs a b = ((a ^^^ b).cpop).toNat := by
  rw [BitVec.toNat_cpop, cpopNatRec_eq_countP, Nat.zero_add, countErrs]

theorem countErrs_comm (a b : Byte) : countErrs a b = countErrs b a := by
  rw [countErrs, BitVec.xor_comm, countErrs]

theorem countErrs_le (a b : Byte) : countErrs a b ≤ 8 :=
  List.countP_le_length

theorem countErrs_eq_zero_iff (a b : Byte) : countErrs a b = 0 ↔ a = b := by
  rw [countErrs, List.countP_eq_zero]
  refine ⟨fun h => BitVec.eq_of_getLsbD_eq fun i hi => ?_, fun h => ?_⟩
  · have hbit := h i (List.mem_range.mpr hi)
    simpa using hbit
  · simp [h]

/-- Settles O53, from the four facts about two bytes. -/
theorem countErrsIsThePopulationCount : Obligations.CountErrsIsThePopulationCount := by
  unfold Obligations.CountErrsIsThePopulationCount
  exact fun a b => ⟨countErrs_eq_cpop a b, countErrs_comm a b, countErrs_eq_zero_iff a b, countErrs_le a b⟩

/-! ## Counting the differing bits of two packed arrays -/

theorem countErrsBits_append {x x' : List Bool} (h : x.length = x'.length) (y y' : List Bool) :
    countErrsBits (x ++ y) (x' ++ y') = countErrsBits x x' + countErrsBits y y' := by
  rw [countErrsBits, List.zipWith_append h, List.countP_append, countErrsBits, countErrsBits]

theorem countErrsBits_cons (a b : Bool) (x y : List Bool) :
    countErrsBits (a :: x) (b :: y) = countErrsBits x y + if a = b then 0 else 1 := by
  rw [countErrsBits, List.zipWith_cons_cons, List.countP_cons, countErrsBits]
  cases a <;> cases b <;> rfl

@[simp] theorem packedBits_length (s : List Byte) (ps : List Nat) : (packedBits s ps).length = ps.length :=
  List.length_map ..

theorem packedBit_cons_add (a : Byte) (s : List Byte) (i : Nat) : packedBit (a :: s) (8 + i) = packedBit s i := by
  have hdiv : (8 + i) / 8 = i / 8 + 1 := by omega
  have hmod : (8 + i) % 8 = i % 8 := by omega
  rw [packedBit, hdiv, hmod, List.getD_cons_succ, packedBit]

/-- The eight bits of a byte as a packed array holds them, most significant first (00_scope.md R11). -/
def byteBits (a : Byte) : List Bool :=
  (List.range 8).reverse.map a.getLsbD

/-- The first byte of a packed array gives its first eight bits. -/
theorem packedBits_cons (a : Byte) (s : List Byte) (n : Nat) :
    packedBits (a :: s) (List.range (8 * (n + 1))) = byteBits a ++ packedBits s (List.range (8 * n)) := by
  have hrest : (List.range (8 * n)).map (packedBit (a :: s) ∘ (8 + ·)) = packedBits s (List.range (8 * n)) :=
    List.map_congr_left fun i _ => packedBit_cons_add a s i
  rw [Nat.mul_succ, Nat.add_comm, List.range_add, packedBits, List.map_append, List.map_map, hrest]
  rfl

theorem countErrsBits_byteBits (a b : Byte) : countErrsBits (byteBits a) (byteBits b) = countErrs a b := by
  rw [countErrsBits, byteBits, byteBits, List.zipWith_map, List.zipWith_self, List.countP_map, List.countP_reverse,
    countErrs]
  exact List.countP_congr fun i _ => by simp

/-- The sum over the bytes counts the bits byte by byte. -/
theorem countErrsBytes_eq_countErrsBits {s t : List Byte} (h : s.length = t.length) :
    countErrsBytes s t
      = countErrsBits (packedBits s (List.range (8 * s.length))) (packedBits t (List.range (8 * t.length))) := by
  induction s generalizing t with
  | nil =>
    obtain rfl : t = [] := List.eq_nil_of_length_eq_zero h.symm
    rfl
  | cons a s ih =>
    obtain ⟨b, t, rfl⟩ := List.exists_cons_of_length_eq_add_one h.symm
    have hlength : s.length = t.length := Nat.succ.inj h
    have hbytes : (byteBits a).length = (byteBits b).length := rfl
    calc countErrsBytes (a :: s) (b :: t)
        = countErrs a b + countErrsBytes s t := List.sum_cons
      _ = _ := by
        rw [List.length_cons, List.length_cons, packedBits_cons, packedBits_cons, countErrsBits_append hbytes,
          countErrsBits_byteBits, ih hlength]

theorem countErrsBits_le (x y : List Bool) : countErrsBits x y ≤ x.length := by
  refine List.countP_le_length.trans ?_
  rw [List.length_zipWith]
  exact Nat.min_le_left _ _

theorem countErrsBits_eq_zero_iff {x y : List Bool} (h : x.length = y.length) : countErrsBits x y = 0 ↔ x = y := by
  induction x generalizing y with
  | nil =>
    obtain rfl : y = [] := List.eq_nil_of_length_eq_zero h.symm
    exact iff_of_true rfl rfl
  | cons a x ih =>
    obtain ⟨b, y, rfl⟩ := List.exists_cons_of_length_eq_add_one h.symm
    rw [countErrsBits_cons, Nat.add_eq_zero_iff, ih (Nat.succ.inj h), List.cons.injEq]
    by_cases hab : a = b <;> simp [hab]

/-- Settles O54: for bytes by `countErrsBytes_eq_countErrsBits`, for bit vectors position by position. -/
theorem countErrsOfSequencesCountsBits : Obligations.CountErrsOfSequencesCountsBits := by
  unfold Obligations.CountErrsOfSequencesCountsBits
  exact ⟨fun _ _ => countErrsBytes_eq_countErrsBits, fun x y h => ⟨countErrsBits_le x y, countErrsBits_eq_zero_iff h⟩⟩

/-! ## The score of a checker -/

/-- A checker that scores a payload gives the mismatches of all its blocks and its frame bits (42_fec_ber.md R224). -/
theorem checkFrame_eq_some {d : CheckerDesc} {st errs nbits : Nat} {p : List Byte}
    (h : checkFrame d st p = some (errs, nbits)) :
    errs = ((d.blocks st).map (blockErrors (descramble p (d.mask st p.length)))).sum ∧ nbits = d.frameBits st := by
  unfold checkFrame at h
  split at h
  · obtain ⟨herrs, hbits⟩ := Prod.mk.inj (Option.some.inj h)
    exact ⟨herrs.symm, hbits.symm⟩
  · cases h

/-- A block has no mismatch exactly when its check bits are the regenerated ones. -/
theorem blockErrors_eq_zero_iff {b : Block}
    (hregen : ∀ x, x.length = b.info.length → (b.regen x).length = b.check.length) (q : List Byte) :
    blockErrors q b = 0 ↔ b.regen (packedBits q b.info) = packedBits q b.check :=
  countErrsBits_eq_zero_iff (by rw [hregen _ (packedBits_length q _), packedBits_length])

/-- Settles O55: the errors are a sum over the blocks, so they are 0 exactly when every block has none. -/
theorem checkerScoreIsBounded : Obligations.CheckerScoreIsBounded := by
  unfold Obligations.CheckerScoreIsBounded
  intro d st errs nbits p hd h
  obtain ⟨hle, hpos⟩ := checkFrame_bounds hd h
  obtain ⟨rfl, hbits⟩ := checkFrame_eq_some h
  refine ⟨hle, hpos, hbits, ?_⟩
  rw [List.sum_eq_zero_iff, List.forall_mem_map]
  exact forall₂_congr fun b hb => blockErrors_eq_zero_iff (hd.regen_length st b hb) _

/-! ## The report of a bank -/

/-- The rate in the model's form is the quotient of the statement (42_fec_ber.md R236). -/
theorem mkReport_eq_bankReport (b : BerBanks) (id : CheckerId) (final : Bool) :
    mkReport b id final = bankReport b id final := by
  simp only [mkReport, bankReport, berRate, Rat.mkRat_eq_div, Nat.cast_mul, Int.cast_mul, Int.cast_natCast,
    Nat.cast_ofNat, Int.cast_ofNat]

theorem bankReport_rate_noData {b : BerBanks} {id : CheckerId} (h : (bankOf b id).bits = 0) (final : Bool) :
    (bankReport b id final).rate = .noData :=
  if_pos h

/-- Settles O56, with the quotient of errors and bits as the percentage. -/
theorem berRateIsAnExactPercentage : Obligations.BerRateIsAnExactPercentage := by
  unfold Obligations.BerRateIsAnExactPercentage
  intro b id final
  refine ⟨mkReport_eq_bankReport b id final, fun hbits => ?_, fun hbits hle => ?_⟩ <;> rw [mkReport_eq_bankReport]
  · exact bankReport_rate_noData hbits final
  · have hpos : (0 : Rat) < (bankOf b id).bits := Nat.cast_pos.mpr (Nat.pos_of_ne_zero hbits)
    have hle : ((bankOf b id).errors : Rat) ≤ (bankOf b id).bits := Nat.cast_le.mpr hle
    refine ⟨_, if_neg hbits, div_mul_cancel₀ _ hpos.ne', by positivity, ?_⟩
    rw [div_le_iff₀ hpos]
    linarith

/-- Settles O23: the tick works bank by bank, and its reports are those of the banks that fire. -/
theorem clockTicksAllBanks : Obligations.ClockTicksAllBanks := by
  unfold Obligations.ClockTicksAllBanks
  refine fun s => ⟨_, rfl, fun id => bankOf_mapBanks s.ber bankTick id, ?_⟩
  have hreports : clockReports s.ber =
      ([.dstar, .dmr, .dmr1031, .ysf, .p25, .nxdn].filter
        (fun id => (bankOf s.ber id).running && (bankOf s.ber id).timer == 1)).map
        (fun id => bankReport s.ber id true) :=
    List.map_congr_left fun id _ => mkReport_eq_bankReport s.ber id true
  rw [← hreports]
  rfl

/-! ## Reading a bank -/

theorem checkerOfNumber_eq_some {n : BitVec 3} {id : CheckerId} (h : checkerNumber id = n.toNat) :
    checkerOfNumber n = some id := by
  rw [checkerOfNumber, ← h]
  cases id <;> rfl

theorem checkerOfNumber_eq_none {n : BitVec 3} (h : 6 ≤ n.toNat) : checkerOfNumber n = none :=
  List.getElem?_eq_none h

theorem checkerNumber_eq_toNat (id : CheckerId) : checkerNumber id = (BitVec.ofNat 3 (checkerNumber id)).toNat := by
  cases id <;> rfl

/-- The output of BER_READ (42_fec_ber.md R237). -/
def readOutput (id : CheckerId) (s : State) : Output :=
  { report := [bankReport s.ber id false], cause := if s.faultOvf then .counterOverflow else .none }

theorem execBerRead_of_checker {n : BitVec 3} {id : CheckerId} (h : checkerOfNumber n = some id) (s : State) :
    execBerRead n s = .next (report (readOutput id s) s) := by
  rw [execBerRead, h, readOutput, ← mkReport_eq_bankReport]

theorem execBerRead_of_reserved {n : BitVec 3} (h : checkerOfNumber n = none) (s : State) :
    execBerRead n s = .next (refuse .badOperand n.toNat s) := by
  rw [execBerRead, h]

/-- Settles O24, by the checker that the operand numbers. -/
theorem berReadReportsOneBank : Obligations.BerReadReportsOneBank := by
  unfold Obligations.BerReadReportsOneBank
  exact fun n s => ⟨fun id h => execBerRead_of_checker (checkerOfNumber_eq_some h) s,
    fun h => execBerRead_of_reserved (checkerOfNumber_eq_none h) s⟩

/-- The report that BER_READ gives of a clear bank (42_fec_ber.md R236, R237). -/
theorem berRead_of_clear {s : State} {id : CheckerId} (h : bankOf s.ber id = {}) :
    ∃ v, exec (.berRead (BitVec.ofNat 3 (checkerNumber id))) s = .next v ∧
      v.out.report = [{ id := id, errors := 0, bits := 0, frames := 0, final := false, rate := .noData }] := by
  refine ⟨_, execBerRead_of_checker (checkerOfNumber_eq_some (checkerNumber_eq_toNat id)) s, ?_⟩
  simp [readOutput, bankReport, h]

/-! ## Offering a codec frame to the bank -/

theorem accumulate_eq_accumulated (id : CheckerId) (errs nbits : Nat) (s : State) :
    accumulate id errs nbits s = accumulated id errs nbits s := by
  have hcond : wouldOverflow (bankOf s.ber id) errs nbits = true ↔
      (bankOf s.ber id).errors + errs > 2 ^ 32 - 1 ∨ (bankOf s.ber id).bits + nbits > 2 ^ 32 - 1
        ∨ (bankOf s.ber id).frames + 1 > 2 ^ 32 - 1 := by
    simp only [wouldOverflow, Bool.or_eq_true, decide_eq_true_eq, or_assoc]
    rfl
  rw [accumulate, accumulated]
  exact if_congr hcond rfl rfl

/-- A delivery of codec data is one attempt of an awaited command, then the bank dispatch. -/
theorem dispatchFrame_codecData (f : List Byte) (s : State) :
    dispatchFrame .codecData f s = berDispatch f (attempted (delivered f .codecData s)) := by
  rw [dispatchFrame_eq, if_pos rfl]
  exact congrArg (berDispatch f) (track_eq_attempted (s := deliver f .codecData s) nofun nofun nofun)

/-- An attempt leaves the committed mode and the banks alone, so the dispatch after it reads those before the step. -/
theorem attempted_delivered_keeps (f : List Byte) (c : FrameClass) (s : State) :
    (attempted (delivered f c s)).cfgCommitted = s.cfgCommitted ∧ (attempted (delivered f c s)).ber = s.ber := by
  unfold attempted
  split_ifs <;> exact ⟨rfl, rfl⟩

/-- The dispatch of the statement: first the tag, then the selected checker, then its score (42_fec_ber.md R233). -/
theorem dispatchFrame_codecData_eq_scored (f : List Byte) (s : State) :
    dispatchFrame .codecData f s = scored f s := by
  obtain ⟨hcfg, _⟩ := attempted_delivered_keeps f .codecData s
  have hmode : BitVec.ofInt 8 s.cfgCommitted.mode = modeByte s.cfgCommitted := rfl
  rw [dispatchFrame_codecData, berDispatch, scored, scoreFrame, hcfg, hmode]
  cases frameTag f with
  | none => rfl
  | some t =>
    simp only
    cases Config.checkerSelect (modeByte s.cfgCommitted) t with
    | none => rfl
    | some id =>
      simp only
      cases checkFrame (Config.checkerDesc id) (Config.subtypeOf t) (framePayload f) with
      | none => rfl
      | some r => exact accumulate_eq_accumulated id r.1 r.2 _

/-- Settles O28: each of the three rows dispatches its frame as codec data. -/
theorem codecFramesFeedTheSelectedBank : Obligations.CodecFramesFeedTheSelectedBank := by
  unfold Obligations.CodecFramesFeedTheSelectedBank
  have row {row : List Byte → Instr} (h : ∀ f s, exec (row f) s = .next (dispatchFrame .codecData f s)) :
      OffersToBank row := fun f s => (h f s).trans (congrArg _ (dispatchFrame_codecData_eq_scored f s))
  exact ⟨row fun _ _ => rfl, row fun _ _ => rfl, row fun _ _ => rfl⟩

/-! ## The scores of one bank -/

/-- A bank after a score, as errors and bits: the score is added, or dropped where a counter would overflow
(42_fec_ber.md R234, R239). -/
def addScore (b : BerBank) (r : Nat × Nat) : BerBank :=
  if wouldOverflow b r.1 r.2 then b else bankAdd b r.1 r.2

theorem bankOf_accumulate_same (id : CheckerId) (errs nbits : Nat) (s : State) :
    bankOf (accumulate id errs nbits s).ber id = addScore (bankOf s.ber id) (errs, nbits) := by
  rcases accumulate_cases id errs nbits s with ⟨hover, h⟩ | ⟨hover, h⟩ <;> simp [h, addScore, hover]

theorem bankOf_accumulate_other {k id : CheckerId} (hk : k ≠ id) (errs nbits : Nat) (s : State) :
    bankOf (accumulate k errs nbits s).ber id = bankOf s.ber id := by
  rcases accumulate_cases k errs nbits s with ⟨_, h⟩ | ⟨_, h⟩ <;> rw [h]
  · rfl
  · exact bankOf_setBank_other _ _ hk

/-- The bank dispatch adds to a bank the score that the frame has for its checker, if any (42_fec_ber.md R233). -/
theorem bankOf_berDispatch (id : CheckerId) (f : List Byte) (s : State) :
    bankOf (berDispatch f s).ber id
      = (scoreFor id (modeByte s.cfgCommitted) f).foldl addScore (bankOf s.ber id) := by
  rw [berDispatch, scoreFor]
  cases scoreFrame Config.checkerSelect Config.subtypeOf Config.checkerDesc (modeByte s.cfgCommitted) f with
  | none => rfl
  | some r =>
    obtain ⟨k, errs, nbits⟩ := r
    by_cases hk : k = id
    · subst hk
      simpa using bankOf_accumulate_same k errs nbits s
    · simpa [hk] using bankOf_accumulate_other hk errs nbits s

/-- The counters of a bank have room for the scores (42_fec_ber.md R234). -/
structure Fits (b : BerBank) (rs : List (Nat × Nat)) : Prop where
  errors : b.errors + (rs.map Prod.fst).sum ≤ 2 ^ 32 - 1
  bits : b.bits + (rs.map Prod.snd).sum ≤ 2 ^ 32 - 1
  frames : b.frames + rs.length ≤ 2 ^ 32 - 1

/-- The bank after all of the scores, none dropped. -/
def withScores (b : BerBank) (rs : List (Nat × Nat)) : BerBank where
  bits := b.bits + (rs.map Prod.snd).sum
  errors := b.errors + (rs.map Prod.fst).sum
  frames := b.frames + rs.length
  timer := if rs ≠ [] then Config.berTimeoutTicks else b.timer
  running := b.running || !rs.isEmpty

theorem withScores_nil (b : BerBank) : withScores b [] = b := by
  simp [withScores]

theorem Fits.room {b : BerBank} {r : Nat × Nat} {rs : List (Nat × Nat)} (h : Fits b (r :: rs)) :
    wouldOverflow b r.1 r.2 = false := by
  obtain ⟨herrors, hbits, hframes⟩ := h
  rw [List.map_cons, List.sum_cons] at herrors hbits
  rw [List.length_cons] at hframes
  have hmax : Config.cntMax = 2 ^ 32 - 1 := rfl
  rw [wouldOverflow_eq_false_iff, hmax]
  omega

theorem Fits.tail {b : BerBank} {r : Nat × Nat} {rs : List (Nat × Nat)} (h : Fits b (r :: rs)) :
    Fits (bankAdd b r.1 r.2) rs := by
  obtain ⟨herrors, hbits, hframes⟩ := h
  rw [List.map_cons, List.sum_cons, ← Nat.add_assoc] at herrors hbits
  rw [List.length_cons, Nat.add_comm rs.length, ← Nat.add_assoc] at hframes
  exact ⟨herrors, hbits, hframes⟩

theorem addScore_of_room {b : BerBank} {r : Nat × Nat} (h : wouldOverflow b r.1 r.2 = false) :
    addScore b r = bankAdd b r.1 r.2 := by
  rw [addScore, h]
  rfl

theorem withScores_cons (b : BerBank) (r : Nat × Nat) (rs : List (Nat × Nat)) :
    withScores b (r :: rs) = withScores (bankAdd b r.1 r.2) rs := by
  simp [withScores, bankAdd, Nat.add_assoc, Nat.add_comm 1]

theorem foldl_addScore {b : BerBank} {rs : List (Nat × Nat)} (h : Fits b rs) :
    rs.foldl addScore b = withScores b rs := by
  induction rs generalizing b with
  | nil => exact (withScores_nil b).symm
  | cons r rs ih => rw [List.foldl_cons, addScore_of_room h.room, ih h.tail, withScores_cons]

/-! ## A tick of one bank -/

/-- The state after CLOCK (42_fec_ber.md R235). -/
def ticked (s : State) : State :=
  report { report := clockReports s.ber } { s with ber := mapBanks s.ber bankTick }

theorem bankOf_ticked (s : State) (id : CheckerId) : bankOf (ticked s).ber id = bankTick (bankOf s.ber id) :=
  bankOf_mapBanks s.ber bankTick id

theorem checkerIds_filter_eq (id : CheckerId) : checkerIds.filter (· == id) = [id] := by
  cases id <;> rfl

/-- Of the reports of a tick those of one checker are the one of its timeout, if it fires. -/
theorem clockReports_filter (b : BerBanks) (id : CheckerId) :
    (clockReports b).filter (fun r => r.id == id) =
      if timeoutFires (bankOf b id) then [bankReport b id true] else [] := by
  have hid : (fun r : BerReport => r.id == id) ∘ (fun k => mkReport b k true) = (· == id) := rfl
  rw [clockReports, List.filter_map, hid, List.filter_comm, checkerIds_filter_eq]
  cases h : timeoutFires (bankOf b id) <;> simp [h, mkReport_eq_bankReport]

theorem fired_cons (id : CheckerId) (o : Output) (os : List Output) :
    fired id (o :: os) = (fired id [o] || fired id os) := by
  simp [fired]

theorem fired_append (id : CheckerId) (os ps : List Output) : fired id (os ++ ps) = (fired id os || fired id ps) :=
  List.any_append

theorem fired_ticked (id : CheckerId) (s : State) : fired id [(ticked s).out] = timeoutFires (bankOf s.ber id) := by
  have hany : fired id [(ticked s).out] = ((clockReports s.ber).filter (fun r => r.id == id)).any BerReport.final := by
    simp [fired, ticked, List.any_filter]
  rw [hany, clockReports_filter]
  cases timeoutFires (bankOf s.ber id) <;> rfl

theorem timeoutFires_eq {b : BerBank} (hrun : b.running = true) : timeoutFires b = (b.timer == 1) := by
  rw [timeoutFires, hrun, Bool.true_and]

theorem bankTick_of_last {b : BerBank} (hrun : b.running = true) (htimer : b.timer = 1) : bankTick b = {} := by
  rw [bankTick, if_pos hrun, if_pos htimer]

theorem bankTick_of_more {b : BerBank} (hrun : b.running = true) (htimer : b.timer ≠ 1) :
    bankTick b = { b with timer := b.timer - 1 } := by
  rw [bankTick, if_pos hrun, if_neg htimer]

/-! ## What one event does to one bank -/

/-- The opcode C0 decodes to `CLOCK` (30_encoding.md R102). -/
theorem decodeEvent_of_isClockEvent {e : Event} (he : isClockEvent e = true) : decodeEvent e = .ok .clock := by
  cases e with
  | transport => cases he
  | host op x =>
    obtain rfl : op = 0xC0 := eq_of_beq he
    rfl

/-- Only the opcode C0 decodes to `CLOCK` (30_encoding.md R102). -/
theorem ne_clock_of_decodeEvent {e : Event} {i : Instr} (hi : decodeEvent e = .ok i) (he : isClockEvent e = false) :
    i ≠ .clock := by
  rintro rfl
  cases e with
  | transport w =>
    have henc := encode_decodeTransport w
    rw [Except.ok.inj hi] at henc
    cases henc
  | host op x =>
    simp only [decodeEvent, decodeHost] at hi
    split at hi
    · next r hr =>
      have hrow : ∀ r ∈ hostTable, r.make op x = .clock → r.mask = 0xFF ∧ r.pattern = 0xC0 := by
        simp [hostTable]
      obtain ⟨hmask, hpattern⟩ := hrow r (List.mem_of_find?_eq_some hr) (Except.ok.inj hi)
      have hmatch := List.find?_some hr
      rw [hmask, hpattern] at hmatch
      exact ne_of_beq_false he ((BitVec.and_allOnes (x := op)).symm.trans (eq_of_beq hmatch))
    · cases hi

theorem step_of_isClockEvent {e : Event} (he : isClockEvent e = true) (s : State) :
    step (present e s) = .next (ticked s) :=
  step_present (decodeEvent_of_isClockEvent he) s

/-- The reports of a host row other than CLOCK: at most the one of BER_READ, which is not final. -/
theorem exec_host_not_final {r : HostRow} (hr : r ∈ hostTable) {op : BitVec 8} {x : Operands} {s t : State}
    (hclock : r.make op x ≠ .clock) (h : exec (r.make op x) s = .next t) : ∀ q ∈ t.out.report, q.final = false := by
  have read (n : BitVec 3) (h : execBerRead n s = .next t) : ∀ q ∈ t.out.report, q.final = false := by
    cases hn : checkerOfNumber n with
    | none => exact Host.Outcome.next.inj ((execBerRead_of_reserved hn s).symm.trans h) ▸ nofun
    | some id =>
      obtain rfl := Host.Outcome.next.inj ((execBerRead_of_checker hn s).symm.trans h)
      exact List.forall_mem_singleton.mpr rfl
  have config (c : Cfg) (h : exec (.cmdSetConfig c) s = .next t) : t.out.report = [] := by
    obtain rfl := Host.Outcome.next.inj ((setConfigIsAcceptedOrRefusedInOrder c s).symm.trans h)
    split_ifs <;> rfl
  have freq (f : BitVec 32) (p : Byte) (h : exec (.cmdSetFreq f p) s = .next t) : t.out.report = [] := by
    obtain ⟨hidle, _, hbusy⟩ := setFreqSendsThirteenBytesOrIsBusy f p s
    by_cases hw : s.ackWait = .idle
    · exact Host.Outcome.next.inj ((hidle hw).symm.trans h) ▸ rfl
    · exact Host.Outcome.next.inj ((hbusy hw).symm.trans h) ▸ rfl
  fin_cases hr
  · exact Host.Outcome.next.inj h ▸ nofun
  · exact Host.Outcome.next.inj h ▸ nofun
  · exact config x.cfg h ▸ nofun
  · exact freq x.freq x.power h ▸ nofun
  · exact absurd rfl hclock
  · exact read x.id h
  all_goals exact Host.Outcome.next.inj h ▸ nofun

theorem execRxb_reports_nothing {b : Byte} {s t : State} (h : execRxb b s = .next t) : t.out.report = [] := by
  rcases execRxb_cases h with ⟨_, _, rfl⟩ | ⟨_, _, _, _, _, rfl⟩ | ⟨v, _, rfl⟩ | ⟨f, g, _, _, _, _, _, _, rfl⟩
  · rfl
  · rfl
  · obtain ⟨_, _, _, _, he⟩ := invalidLength_cases v s
    rw [he]
  · obtain ⟨_, _, _, _, _, hreport⟩ := dispatchFrame_out (classOfTag g) f
      (resetFramer { s with buf := Memory.write s.buf s.rxOffset b })
    exact hreport

/-- Only CLOCK gives final reports (42_fec_ber.md R235, R237). -/
theorem step_not_fired {e : Event} {s u : State} (hclock : isClockEvent e = false) (h : step (present e s) = .next u)
    (id : CheckerId) : fired id [u.out] = false := by
  obtain ⟨i, hi⟩ := decodeEvent_total e
  have hrun := (step_present hi s).symm.trans h
  have hfinal : ∀ q ∈ u.out.report, q.final = false := by
    rcases decodeEvent_cases hi with ⟨v, d, rfl⟩ | ⟨b, rfl⟩ | ⟨d, rfl⟩ | ⟨r, hr, op, x, rfl⟩
    · obtain ⟨_, _, _, _, he⟩ := execRxerr_cases v d s
      exact Host.Outcome.next.inj (he.symm.trans hrun) ▸ nofun
    · exact execRxb_reports_nothing hrun ▸ nofun
    · obtain ⟨_, _, _, _, he⟩ := execRxidle_cases d s
      exact Host.Outcome.next.inj (he.symm.trans hrun) ▸ nofun
    · exact exec_host_not_final hr (ne_clock_of_decodeEvent hi hclock) hrun
  simpa [fired] using fun r hr _ => hfinal r hr

theorem scoresOf_of_codecData {e : Event} {s u : State} {f : List Byte} (h : step (present e s) = .next u)
    (hcls : u.out.cls = some .codecData) (hframe : u.out.frame = some f) (id : CheckerId) :
    scoresOf id [e] s = scoreFor id (modeByte s.cfgCommitted) f := by
  simp only [scoresOf, h, hcls, hframe, List.append_nil]

theorem scoresOf_of_not_codecData {e : Event} {s u : State} (h : step (present e s) = .next u)
    (hcls : u.out.cls ≠ some .codecData) (id : CheckerId) : scoresOf id [e] s = [] := by
  simp only [scoresOf, h]
  split
  · next hc _ => exact absurd hc hcls
  · rfl

theorem scoresOf_of_isClockEvent {e : Event} (he : isClockEvent e = true) (s : State) (id : CheckerId) :
    scoresOf id [e] s = [] :=
  scoresOf_of_not_codecData (step_of_isClockEvent he s) nofun id

/-- An event that is no tick and no reset adds to a bank the scores of the frame it delivers, and nothing else
(42_fec_ber.md R233). -/
theorem step_bank {e : Event} {s u : State} (hreset : isResetEvent e = false) (hclock : isClockEvent e = false)
    (h : step (present e s) = .next u) (id : CheckerId) :
    bankOf u.ber id = (scoresOf id [e] s).foldl addScore (bankOf s.ber id) := by
  obtain ⟨i, hi⟩ := decodeEvent_total e
  have silent (hber : u.ber = s.ber) (hcls : u.out.cls ≠ some .codecData) :
      bankOf u.ber id = (scoresOf id [e] s).foldl addScore (bankOf s.ber id) := by
    rw [scoresOf_of_not_codecData h hcls, hber, List.foldl_nil]
  cases exec_transition ((step_present hi s).symm.trans h) with
  | reported v o hcls => exact silent rfl (by rw [report_out, hcls]; nofun)
  | sentConfig | sentFreq => exact silent rfl nofun
  | ticked => exact absurd rfl (ne_clock_of_decodeEvent hi hclock)
  | reset => exact absurd rfl (ne_reset_of_decodeEvent hi hreset)
  | polled v o hcls =>
    refine silent (track_ber _) ?_
    rw [track_keeps]
    exact fun hc => nomatch hcls.symm.trans hc
  | delivered v c f =>
    obtain ⟨_, hframe, hcls, _⟩ := dispatchFrame_out c f (withFramer v s)
    by_cases hc : c = .codecData
    · subst hc
      obtain ⟨hcfg, hber⟩ := attempted_delivered_keeps f .codecData (withFramer v s)
      rw [scoresOf_of_codecData h hcls hframe, dispatchFrame_codecData, bankOf_berDispatch, hcfg, hber]
      rfl
    · obtain ⟨hber, _⟩ := dispatchFrame_ber_of_ne hc f (withFramer v s)
      exact silent hber (fun hcodec => hc (Option.some.inj (hcls.symm.trans hcodec)))

/-! ## Runs -/

theorem scoresOf_cons {e : Event} {s u : State} (h : step (present e s) = .next u) (id : CheckerId)
    (es : List Event) : scoresOf id (e :: es) s = scoresOf id [e] s ++ scoresOf id es u := by
  simp only [scoresOf, h]
  split <;> simp

theorem scoresOf_append {pre : List Event} {s r : State} {ps : List Output} (h : feed pre s = some (r, ps))
    (id : CheckerId) (es : List Event) : scoresOf id (pre ++ es) s = scoresOf id pre s ++ scoresOf id es r := by
  induction pre generalizing s ps with
  | nil =>
    obtain ⟨rfl, _⟩ := Prod.mk.inj (Option.some.inj h)
    rfl
  | cons e pre ih =>
    obtain ⟨u, qs, hstep, hrest, _⟩ := feed_cons_some h
    rw [List.cons_append, scoresOf_cons hstep, ih hrest, scoresOf_cons hstep id pre, List.append_assoc]

/-- A run that goes on with one more event ends with the step of that event. -/
theorem feed_snoc_some {pre : List Event} {e : Event} {s r t : State} {ps os : List Output}
    (hpre : feed pre s = some (r, ps)) (h : feed (pre ++ [e]) s = some (t, os)) :
    step (present e r) = .next t ∧ os = ps ++ [t.out] := by
  rw [feed_append, hpre] at h
  obtain ⟨⟨_, qs⟩, hlast, heq⟩ := Option.map_eq_some_iff.mp h
  obtain ⟨rfl, rfl⟩ := Prod.mk.inj heq
  obtain ⟨u, _, hstep, hend, rfl⟩ := feed_cons_some hlast
  obtain ⟨rfl, rfl⟩ := Prod.mk.inj (Option.some.inj hend)
  exact ⟨hstep, rfl⟩

/-! ## A bank over a run without a timeout -/

/-- The bank `c` has the counters of `b` and the scores on top, and runs if `b` ran or there are scores. -/
structure Grows (rs : List (Nat × Nat)) (b c : BerBank) : Prop where
  errors : c.errors = b.errors + (rs.map Prod.fst).sum
  bits : c.bits = b.bits + (rs.map Prod.snd).sum
  frames : c.frames = b.frames + rs.length
  running : c.running = true ↔ b.running = true ∨ rs ≠ []

theorem Grows.refl (b : BerBank) : Grows [] b b := by
  constructor <;> simp

theorem Grows.trans {x y : List (Nat × Nat)} {b c d : BerBank} (h : Grows x b c) (h' : Grows y c d) :
    Grows (x ++ y) b d where
  errors := by rw [h'.errors, h.errors, List.map_append, List.sum_append, Nat.add_assoc]
  bits := by rw [h'.bits, h.bits, List.map_append, List.sum_append, Nat.add_assoc]
  frames := by rw [h'.frames, h.frames, List.length_append, Nat.add_assoc]
  running := by rw [h'.running, h.running, or_assoc, ← not_and_or, ← List.append_eq_nil_iff]

theorem withScores_grows (b : BerBank) (rs : List (Nat × Nat)) : Grows rs b (withScores b rs) := by
  constructor <;> simp [withScores]

theorem Fits.left {b : BerBank} {x y : List (Nat × Nat)} (h : Fits b (x ++ y)) : Fits b x := by
  obtain ⟨herrors, hbits, hframes⟩ := h
  simp only [List.map_append, List.sum_append, List.length_append] at herrors hbits hframes
  constructor <;> omega

theorem Fits.right {b c : BerBank} {x y : List (Nat × Nat)} (h : Fits b (x ++ y)) (hc : Grows x b c) : Fits c y := by
  obtain ⟨herrors, hbits, hframes⟩ := h
  simp only [List.map_append, List.sum_append, List.length_append] at herrors hbits hframes
  constructor
  · rw [hc.errors]; omega
  · rw [hc.bits]; omega
  · rw [hc.frames]; omega

/-- A tick at which the timeout does not fire takes one off the timer of a running bank. -/
theorem bankTick_of_not_fires {b : BerBank} (h : timeoutFires b = false) :
    bankTick b = { b with timer := if b.running then b.timer - 1 else b.timer } := by
  rcases bankTick_cases b with ⟨hrun, ht⟩ | ⟨hrun, htimer, _⟩ | ⟨hrun, _, ht⟩
  · rw [ht, if_neg (ne_true_of_eq_false hrun)]
  · simp [timeoutFires, hrun, htimer] at h
  · simp [ht, hrun]

/-- The bank after one event that fires no timeout of it, no counter overflowing (42_fec_ber.md R234, R235). -/
theorem step_bank_eq {e : Event} {s u : State} {id : CheckerId} (hreset : isResetEvent e = false)
    (h : step (present e s) = .next u) (hfired : fired id [u.out] = false)
    (hfits : Fits (bankOf s.ber id) (scoresOf id [e] s)) :
    bankOf u.ber id = { withScores (bankOf s.ber id) (scoresOf id [e] s) with
      timer :=
        if scoresOf id [e] s ≠ [] then Config.berTimeoutTicks
        else if isClockEvent e ∧ (bankOf s.ber id).running then (bankOf s.ber id).timer - 1
        else (bankOf s.ber id).timer } := by
  cases hclock : isClockEvent e with
  | false =>
    rw [step_bank hreset hclock h, foldl_addScore hfits]
    simp [withScores]
  | true =>
    obtain rfl := Host.Outcome.next.inj ((step_of_isClockEvent hclock s).symm.trans h)
    rw [fired_ticked] at hfired
    rw [scoresOf_of_isClockEvent hclock, withScores_nil, bankOf_ticked, bankTick_of_not_fires hfired]
    simp

theorem step_grows {e : Event} {s u : State} {id : CheckerId} (hreset : isResetEvent e = false)
    (h : step (present e s) = .next u) (hfired : fired id [u.out] = false)
    (hfits : Fits (bankOf s.ber id) (scoresOf id [e] s)) :
    Grows (scoresOf id [e] s) (bankOf s.ber id) (bankOf u.ber id) := by
  obtain ⟨herrors, hbits, hframes, hrunning⟩ := withScores_grows (bankOf s.ber id) (scoresOf id [e] s)
  rw [step_bank_eq hreset h hfired hfits]
  exact ⟨herrors, hbits, hframes, hrunning⟩

/-- Step by step: the scores of a run are those of its first event and those of the rest. -/
theorem feed_grows {es : List Event} {s t : State} {os : List Output} {id : CheckerId}
    (hes : ∀ e ∈ es, isResetEvent e = false) (h : feed es s = some (t, os)) (hfired : fired id os = false)
    (hfits : Fits (bankOf s.ber id) (scoresOf id es s)) :
    Grows (scoresOf id es s) (bankOf s.ber id) (bankOf t.ber id) := by
  induction es generalizing s os with
  | nil =>
    obtain ⟨rfl, _⟩ := Prod.mk.inj (Option.some.inj h)
    exact .refl _
  | cons e es ih =>
    obtain ⟨he, hes⟩ := List.forall_mem_cons.mp hes
    obtain ⟨u, ps, hstep, hrest, rfl⟩ := feed_cons_some h
    rw [fired_cons, Bool.or_eq_false_iff] at hfired
    obtain ⟨hfirst, hlater⟩ := hfired
    rw [scoresOf_cons hstep] at hfits ⊢
    have hgrows := step_grows he hstep hfirst hfits.left
    exact hgrows.trans (ih hes hrest hlater (hfits.right hgrows))

/-- Settles O58: the counters by `feed_grows`, the timer by the last step. -/
theorem bankHoldsTheScoresOfTheRun : Obligations.BankHoldsTheScoresOfTheRun := by
  unfold Obligations.BankHoldsTheScoresOfTheRun
  intro id es s t os hes h hfired herrors hbits hframes
  have hfits : Fits (bankOf s.ber id) (scoresOf id es s) := ⟨herrors, hbits, hframes⟩
  obtain ⟨herrors, hbits, hframes, hrunning⟩ := feed_grows hes h hfired hfits
  refine ⟨herrors, hbits, hframes, hrunning, ?_⟩
  rintro pre e r ps rfl hpre
  obtain ⟨hespre, he⟩ := List.forall_mem_append.mp hes
  obtain ⟨hstep, rfl⟩ := feed_snoc_some hpre h
  rw [fired_append, Bool.or_eq_false_iff] at hfired
  obtain ⟨hbefore, hlast⟩ := hfired
  rw [scoresOf_append hpre] at hfits
  have hgrows := feed_grows hespre hpre hbefore hfits.left
  rw [step_bank_eq (he e (List.mem_singleton_self e)) hstep hlast (hfits.right hgrows)]

/-! ## The timeout of a bank -/

theorem bankReport_congr {b c : BerBanks} {id : CheckerId} (herrors : (bankOf c id).errors = (bankOf b id).errors)
    (hbits : (bankOf c id).bits = (bankOf b id).bits) (hframes : (bankOf c id).frames = (bankOf b id).frames)
    (final : Bool) : bankReport c id final = bankReport b id final := by
  rw [bankReport, bankReport, herrors, hbits, hframes]

section Running

variable {id : CheckerId} {s : State} (hrun : (bankOf s.ber id).running = true)

include hrun

/-- With more than one tick to go a tick takes one and gives no report of the checker. -/
theorem ticked_of_more {n : Nat} (htimer : (bankOf s.ber id).timer = n + 2) :
    bankOf (ticked s).ber id = { bankOf s.ber id with timer := n + 1 } ∧
    (ticked s).out.report.filter (fun r => r.id == id) = [] ∧ fired id [(ticked s).out] = false := by
  have hmore : (bankOf s.ber id).timer ≠ 1 := by omega
  have hfires : timeoutFires (bankOf s.ber id) = false := (timeoutFires_eq hrun).trans (beq_false_of_ne hmore)
  refine ⟨?_, ?_, (fired_ticked id s).trans hfires⟩
  · rw [bankOf_ticked, bankTick_of_more hrun hmore, htimer]
    rfl
  · exact (clockReports_filter s.ber id).trans (by rw [hfires]; rfl)

/-- The last tick reports the counters and clears the bank (42_fec_ber.md R235). -/
theorem ticked_of_last (htimer : (bankOf s.ber id).timer = 1) :
    bankOf (ticked s).ber id = {} ∧
    (ticked s).out.report.filter (fun r => r.id == id) = [bankReport s.ber id true] := by
  have hfires : timeoutFires (bankOf s.ber id) = true := by rw [timeoutFires_eq hrun, htimer]; rfl
  exact ⟨(bankOf_ticked s id).trans (bankTick_of_last hrun htimer),
    (clockReports_filter s.ber id).trans (if_pos hfires)⟩

/-- As many ticks as the timer says, nothing between them: one report of the checker, on the last. -/
theorem feed_ticks {n : Nat} (htimer : (bankOf s.ber id).timer = n + 1) :
    ∃ u os, feed (List.replicate (n + 1) clockEvent) s = some (u, os) ∧
      os.map (fun o => o.report.filter (fun r => r.id == id)) =
        List.replicate n [] ++ [[bankReport s.ber id true]] ∧
      bankOf u.ber id = {} := by
  induction n generalizing s with
  | zero =>
    obtain ⟨hbank, hreport⟩ := ticked_of_last hrun htimer
    exact ⟨ticked s, [(ticked s).out], feed_cons_next (step_clockEvent s) [], congrArg ([·]) hreport, hbank⟩
  | succ n ih =>
    obtain ⟨hbank, hreport, _⟩ := ticked_of_more hrun htimer
    obtain ⟨u, os, hfeed, hreports, hclear⟩ := ih (s := ticked s) (by rw [hbank]; exact hrun) (by rw [hbank])
    have hsame : bankReport (ticked s).ber id true = bankReport s.ber id true := by
      apply bankReport_congr <;> rw [hbank]
    refine ⟨u, (ticked s).out :: os, ?_, ?_, hclear⟩
    · have hfirst : step (present clockEvent s) = .next (ticked s) := step_clockEvent s
      rw [List.replicate_succ, feed_cons_next hfirst, hfeed]
      rfl
    · rw [List.map_cons, hreport, hreports, hsame, List.replicate_succ, List.cons_append]

end Running

/-- Without a score of the checker only the ticks touch its bank, and each takes one off the timer. -/
theorem feed_counts_down {id : CheckerId} {n : Nat} {es : List Event} {s t : State} {os : List Output}
    (hrun : (bankOf s.ber id).running = true) (htimer : (bankOf s.ber id).timer = n + 1)
    (hes : ∀ e ∈ es, isResetEvent e = false) (hticks : (es.filter isClockEvent).length = n)
    (hscores : scoresOf id es s = []) (h : feed es s = some (t, os)) :
    fired id os = false ∧ bankOf t.ber id = { bankOf s.ber id with timer := 1 } := by
  induction es generalizing s os n with
  | nil =>
    obtain ⟨rfl, rfl⟩ := Prod.mk.inj (Option.some.inj h)
    obtain rfl : 0 = n := hticks
    refine ⟨rfl, ?_⟩
    calc bankOf s.ber id = { bankOf s.ber id with timer := (bankOf s.ber id).timer } := rfl
      _ = { bankOf s.ber id with timer := 1 } := by rw [htimer]
  | cons e es ih =>
    obtain ⟨he, hes⟩ := List.forall_mem_cons.mp hes
    obtain ⟨u, ps, hstep, hrest, rfl⟩ := feed_cons_some h
    rw [scoresOf_cons hstep, List.append_eq_nil_iff] at hscores
    obtain ⟨hscore, hscores⟩ := hscores
    rw [fired_cons]
    cases hclock : isClockEvent e with
    | false =>
      have hbank : bankOf u.ber id = bankOf s.ber id := by
        rw [step_bank he hclock hstep, hscore, List.foldl_nil]
      rw [List.filter_cons_of_neg (by simp [hclock])] at hticks
      rw [step_not_fired hclock hstep, Bool.false_or, ← hbank]
      exact ih (by rw [hbank, hrun]) (by rw [hbank, htimer]) hes hticks hscores hrest
    | true =>
      obtain rfl := Host.Outcome.next.inj ((step_of_isClockEvent hclock s).symm.trans hstep)
      rw [List.filter_cons_of_pos hclock, List.length_cons] at hticks
      subst hticks
      obtain ⟨hbank, _, hfired⟩ := ticked_of_more hrun htimer
      obtain ⟨hlater, hend⟩ := ih (by rw [hbank]; exact hrun) (by rw [hbank]) hes rfl hscores hrest
      rw [hbank] at hend
      exact ⟨by rw [hfired, hlater]; rfl, hend⟩

/-- Settles O59: the other events leave the bank with its counters and one tick to go, and the next tick is the last. -/
theorem timeoutReportsTheSumsOnce : Obligations.TimeoutReportsTheSumsOnce := by
  unfold Obligations.TimeoutReportsTheSumsOnce
  intro id n es s t os hrun htimer hes hticks hscores h
  obtain ⟨hfired, hbank⟩ := feed_counts_down hrun htimer hes hticks hscores h
  have hsame : bankReport t.ber id true = bankReport s.ber id true := by
    apply bankReport_congr <;> rw [hbank]
  obtain ⟨hclear, hreport⟩ := ticked_of_last (s := t) (id := id) (by rw [hbank]; exact hrun) (by rw [hbank])
  exact ⟨hfired, ticked t, (ticked t).out, feed_cons_next (step_clockEvent t) [], hreport.trans (by rw [hsame]), hclear,
    berRead_of_clear hclear⟩

/-! ## The accumulation law -/

/-- Without overflow every accumulation adds its score to the bank, and the overflow flag stays. -/
theorem foldl_accumulate {id : CheckerId} {rs : List (Nat × Nat)} {s : State} (h : Fits (bankOf s.ber id) rs) :
    bankOf (rs.foldl (fun u r => accumulate id r.1 r.2 u) s).ber id = withScores (bankOf s.ber id) rs ∧
    (rs.foldl (fun u r => accumulate id r.1 r.2 u) s).faultOvf = s.faultOvf := by
  induction rs generalizing s with
  | nil => exact ⟨(withScores_nil _).symm, rfl⟩
  | cons r rs ih =>
    have hbank : bankOf (accumulate id r.1 r.2 s).ber id = bankAdd (bankOf s.ber id) r.1 r.2 :=
      (bankOf_accumulate_same id r.1 r.2 s).trans (addScore_of_room h.room)
    have hovf : (accumulate id r.1 r.2 s).faultOvf = s.faultOvf := by
      rw [accumulate, h.room]
      rfl
    obtain ⟨hbanks, hflag⟩ := ih (s := accumulate id r.1 r.2 s) (by rw [hbank]; exact h.tail)
    rw [List.foldl_cons, withScores_cons, ← hbank]
    exact ⟨hbanks, hflag.trans hovf⟩

/-- Settles O57: the sums by `foldl_accumulate`, the ticks by `feed_ticks`. -/
theorem berAccumulationLaw : Obligations.BerAccumulationLaw := by
  unfold Obligations.BerAccumulationLaw
  intro id rs s hrs hclear herrors hbits hframes
  have hfits : Fits (bankOf s.ber id) rs := by
    rw [hclear]
    exact ⟨by rwa [Nat.zero_add], by rwa [Nat.zero_add], by rwa [Nat.zero_add]⟩
  obtain ⟨hbank, hovf⟩ := foldl_accumulate hfits
  have hsums : withScores (bankOf s.ber id) rs =
      { bits := (rs.map Prod.snd).sum, errors := (rs.map Prod.fst).sum, frames := rs.length
        timer := Config.berTimeoutTicks, running := true } := by
    simp [withScores, hclear, hrs]
  rw [hsums] at hbank
  obtain ⟨n, hn⟩ : ∃ n, Config.berTimeoutTicks = n + 1 :=
    Nat.exists_eq_add_of_le' Config.openParams.berTimeoutTicks_pos
  obtain ⟨u, os, hfeed, hreports, hend⟩ := feed_ticks (n := n) (id := id)
    (s := rs.foldl (fun u r => accumulate id r.1 r.2 u) s) (by rw [hbank]) (by rw [hbank, hn])
  refine ⟨_, rfl, hovf, hbank, u, os, ?_, ?_, hend, berRead_of_clear hend⟩ <;> rw [hn]
  · exact hfeed
  · exact hreports

end Sys2Proof.Proofs

/-! Proofs of the statements on 60_exceptions.md: no dead state (R295), a refused command does nothing (R288), and what
each event may report (R282). -/

namespace Sys2Proof.Proofs

open Sys2Proof.Machine Sys2Proof.Safety Sys2Proof.Claims

/-! ## What the commands with a test answer -/

/-- The causes that CMD_SET_CONFIG refuses with, in the order of its tests (41_codec.md R174). -/
def RefusesConfig (k : Cause) : Prop :=
  k = .busy ∨ k = .notNegotiated ∨ k = .badOperand

theorem execCmdSetConfig_refuses_or_sends (c : Cfg) (s : State) :
    (∃ k, RefusesConfig k ∧ execCmdSetConfig c s = .next (refuse k 0x02 s)) ∨
    ∃ l, execCmdSetConfig c s = .next (sendConfig l c s) := by
  by_cases hidle : s.ackWait = .idle
  · cases hversion : s.protoVersion with
    | none => exact .inl ⟨_, .inr (.inl rfl), execCmdSetConfig_notNegotiated hidle hversion c⟩
    | some v =>
      by_cases hc : c.valid
      · exact .inr ⟨_, execCmdSetConfig_accepted hidle hversion hc⟩
      · exact .inl ⟨_, .inr (.inr rfl), execCmdSetConfig_badOperand hidle hversion hc⟩
  · exact .inl ⟨_, .inl rfl, execCmdSetConfig_busy hidle c⟩

theorem execCmdSetFreq_refuses_or_sends (f : BitVec 32) (p : Byte) (s : State) :
    execCmdSetFreq f p s = .next (refuse .busy 0x04 s) ∨ execCmdSetFreq f p s = execTxSetFreq f p s := by
  by_cases hidle : s.ackWait = .idle
  · exact .inr (execCmdSetFreq_accepted hidle f p)
  · exact .inl (execCmdSetFreq_busy hidle f p)

theorem execBerRead_refuses_or_reads (n : BitVec 3) (s : State) :
    execBerRead n s = .next (refuse .badOperand n.toNat s) ∨
    ∃ id, execBerRead n s = .next (report (readOutput id s) s) := by
  cases hn : checkerOfNumber n with
  | none => exact .inl (execBerRead_of_reserved hn s)
  | some id => exact .inr ⟨id, execBerRead_of_checker hn s⟩

/-! ## Every event answers a next state -/

theorem execHost_answers {r : HostRow} (hr : r ∈ hostTable) (op : BitVec 8) (x : Operands) (s : State) :
    ∃ t, exec (r.make op x) s = .next t := by
  have config : ∃ t, execCmdSetConfig x.cfg s = .next t := by
    rcases execCmdSetConfig_refuses_or_sends x.cfg s with ⟨_, _, h⟩ | ⟨_, h⟩ <;> exact ⟨_, h⟩
  have freq : ∃ t, execCmdSetFreq x.freq x.power s = .next t := by
    rcases execCmdSetFreq_refuses_or_sends x.freq x.power s with h | h <;> exact ⟨_, h⟩
  have read : ∃ t, execBerRead x.id s = .next t := by
    rcases execBerRead_refuses_or_reads x.id s with h | ⟨_, h⟩ <;> exact ⟨_, h⟩
  fin_cases hr
  · exact ⟨_, rfl⟩
  · exact ⟨_, rfl⟩
  · exact config
  · exact freq
  · exact ⟨_, rfl⟩
  · exact read
  all_goals exact ⟨_, rfl⟩

/-- Only `RXB` could stop, and it does not where R26 holds. -/
theorem exec_answers {e : Event} {i : Instr} (hi : decodeEvent e = .ok i) {s : State} (hs : FramerInv s) :
    ∃ t, exec i s = .next t := by
  obtain ⟨htable, hbytes, _⟩ := hs
  rcases decodeEvent_cases hi with ⟨v, d, rfl⟩ | ⟨b, rfl⟩ | ⟨d, rfl⟩ | ⟨r, hr, op, x, rfl⟩
  · exact ⟨_, rfl⟩
  · exact execRxb_answers htable hbytes b
  · exact ⟨_, rfl⟩
  · exact execHost_answers hr op x s

theorem step_answers {s : State} (hs : Inv s) : ∃ t, step s = .next t := by
  rcases step_cases s with ⟨_, h⟩ | ⟨e, rest, i, _, hi, h⟩
  · exact ⟨s, h⟩
  · rw [h]
    exact exec_answers hi (s := { s with pending := rest }) hs.framer

/-- No part of the invariant speaks of the waiting events. -/
theorem inv_present {s : State} (hs : Inv s) (e : Event) : Inv (present e s) :=
  ⟨hs.framer, hs.buffer, hs.tracker, hs.cfg, hs.version, hs.ber⟩

theorem feed_answers (es : List Event) {s : State} (hs : Inv s) :
    ∃ t os, feed es s = some (t, os) ∧ os.length = es.length ∧ Inv t := by
  induction es generalizing s with
  | nil => exact ⟨s, [], rfl, rfl, hs⟩
  | cons e es ih =>
    obtain ⟨u, hu⟩ := step_answers (inv_present hs e)
    obtain ⟨t, os, hfeed, hlength, ht⟩ := ih (everyStepKeepsTheInvariant _ _ (inv_present hs e) hu)
    refine ⟨t, u.out :: os, ?_, congrArg Nat.succ hlength, ht⟩
    rw [feed_cons_next hu, hfeed, Option.map_some]

/-- Settles O32: a step answers where the invariant holds and keeps it, so the run goes on to its last event. -/
theorem noDeadState : Obligations.NoDeadState := by
  unfold Obligations.NoDeadState
  exact ⟨fun _ hs => step_answers hs, fun es _ hs => feed_answers es hs⟩

/-! ## A refusal writes the output record and nothing else -/

@[simp] theorem track_out_rxStatus (s : State) : (track s).out.rxStatus = s.out.rxStatus := by
  rw [track_keeps]

@[simp] theorem track_out_cmdStatus (s : State) : (track s).out.cmdStatus = s.out.cmdStatus := by
  rw [track_keeps]

@[simp] theorem track_out_cause (s : State) : (track s).out.cause = s.out.cause := by
  rw [track_keeps]

/-- The causes of the Refusal kind (60_exceptions.md R281). -/
def RefusalCause (k : Cause) : Prop :=
  k = .busy ∨ k = .notNegotiated ∨ k = .badOperand ∨ k = .badOp

/-- The step reports no refusal, or it is a `refuse` with a cause of the Refusal kind and nothing else. -/
def OkOrRefuses (s t : State) : Prop :=
  t.out.cmdStatus = .ok ∨ ∃ k n, RefusalCause k ∧ t = refuse k n s

theorem dispatchFrame_cmdStatus (c : FrameClass) (f : List Byte) (s : State) :
    (dispatchFrame c f s).out.cmdStatus = .ok := by
  obtain ⟨_, _, _, hcmd, _⟩ := dispatchFrame_out c f s
  exact hcmd

theorem execRxb_cmdStatus {b : Byte} {s t : State} (h : execRxb b s = .next t) : t.out.cmdStatus = .ok := by
  rcases execRxb_cases h with ⟨_, _, rfl⟩ | ⟨_, _, _, _, _, rfl⟩ | ⟨v, _, rfl⟩ | ⟨f, g, _, _, _, _, _, _, rfl⟩
  · rfl
  · rfl
  · exact track_out_cmdStatus _
  · exact dispatchFrame_cmdStatus ..

theorem execCmdSetConfig_okOrRefuses {c : Cfg} {s t : State} (h : execCmdSetConfig c s = .next t) :
    OkOrRefuses s t := by
  rcases execCmdSetConfig_refuses_or_sends c s with ⟨k, hk, he⟩ | ⟨l, he⟩ <;>
    obtain rfl := Host.Outcome.next.inj (he.symm.trans h)
  · exact .inr ⟨k, _, hk.imp_right (.imp_right .inl), rfl⟩
  · exact .inl rfl

theorem execCmdSetFreq_okOrRefuses {f : BitVec 32} {p : Byte} {s t : State} (h : execCmdSetFreq f p s = .next t) :
    OkOrRefuses s t := by
  rcases execCmdSetFreq_refuses_or_sends f p s with he | he <;>
    obtain rfl := Host.Outcome.next.inj (he.symm.trans h)
  · exact .inr ⟨_, _, .inl rfl, rfl⟩
  · exact .inl rfl

theorem execBerRead_okOrRefuses {n : BitVec 3} {s t : State} (h : execBerRead n s = .next t) : OkOrRefuses s t := by
  rcases execBerRead_refuses_or_reads n s with he | ⟨id, he⟩ <;>
    obtain rfl := Host.Outcome.next.inj (he.symm.trans h)
  · exact .inr ⟨_, _, .inr (.inr (.inl rfl)), rfl⟩
  · exact .inl rfl

/-- A reserved opcode is refused with cause `BAD_OP` (30_encoding.md R104). -/
theorem refuseReserved_okOrRefuses {op : BitVec 8} {s t : State}
    (h : (.next (refuseReserved op s) : Result) = .next t) : OkOrRefuses s t :=
  .inr ⟨.badOp, op.toNat, .inr (.inr (.inr rfl)), (Host.Outcome.next.inj h).symm⟩

/-- The rows not named in the cases below are those of the received frames. -/
theorem exec_okOrRefuses {i : Instr} {s t : State} (h : exec i s = .next t) : OkOrRefuses s t := by
  cases i with
  | rxb => exact .inl (execRxb_cmdStatus h)
  | rxerr | rxidle => exact .inl (Host.Outcome.next.inj h ▸ track_out_cmdStatus _)
  | cmdSetConfig => exact execCmdSetConfig_okOrRefuses h
  | cmdSetFreq => exact execCmdSetFreq_okOrRefuses h
  | berRead => exact execBerRead_okOrRefuses h
  | reserved0303 | reserved0505 | reserved0607 | reserved080F | reserved101F | reserved203F | reserved407F
  | reserved80BF | reservedC2C3 | reservedC4C7 | reservedC8CB | reservedCCCD | reservedCECE | reservedD0DF
  | reservedE0FF => exact refuseReserved_okOrRefuses h
  | cmdGetVersion | cmdGetStatus | clock | reset | txGetVersion | txGetStatus | txSetConfigV1 | txSetConfigV2
  | txSetFreq => exact .inl (Host.Outcome.next.inj h ▸ rfl)
  | _ => exact .inl (Host.Outcome.next.inj h ▸ dispatchFrame_cmdStatus ..)

/-- Settles O46: a step that reports a refusal is a `refuse`, which writes the output record alone. -/
theorem refusedCommandDoesNothing : Obligations.RefusedCommandDoesNothing := by
  unfold Obligations.RefusedCommandDoesNothing
  intro i s t h hrefused
  rcases exec_okOrRefuses h with hok | ⟨k, n, hk, rfl⟩
  · cases hok.symm.trans hrefused
  · exact ⟨rfl, rfl, hk⟩

/-! ## The link report and the cause of a transport word -/

/-- The tracker reports nothing of the link while no command is awaited (41_codec.md R192, R197). -/
theorem awaited_of_track_link {s : State} (hs : s.out.link = .none) (h : (track s).out.link ≠ .none) :
    s.ackWait ≠ .idle := by
  intro hidle
  rw [track_idle hidle] at h
  exact h hs

/-- Without a frame there is no ACK and no NAK: the tracker reports at most that it gives up (41_codec.md R196). -/
theorem track_link_of_noFrame {s : State} (hcls : s.out.cls = none) (hs : s.out.link = .none) :
    (track s).out.link = .none ∨ (track s).out.link = .unresponsive := by
  rcases track_cases s with ⟨_, h⟩ | ⟨_, _, ⟨hc, _⟩ | ⟨_, hc, _⟩ | ⟨_, _, h⟩ | ⟨_, _, h⟩⟩
  · rw [h]
    exact .inl hs
  · cases hcls.symm.trans hc
  · cases hcls.symm.trans hc
  · rw [h]
    exact .inr rfl
  · rw [h]
    exact .inl hs

/-- Of a delivery only the tracker reports on the link. -/
theorem awaited_of_dispatchFrame_link {c : FrameClass} {f : List Byte} {s : State}
    (h : (dispatchFrame c f s).out.link ≠ .none) : s.ackWait ≠ .idle := by
  rw [dispatchFrame_eq] at h
  split at h
  · rw [berDispatch_keeps] at h
    exact awaited_of_track_link (s := deliver f c s) rfl h
  · split at h
    · have hwait := awaited_of_track_link (s := decodeVersion f (deliver f c s)) (by rw [decodeVersion_keeps]; rfl) h
      rwa [decodeVersion_keeps] at hwait
    · exact awaited_of_track_link (s := deliver f c s) rfl h

/-- The causes that the handling of a delivered frame can give (41_codec.md R186, 42_fec_ber.md R239). -/
def DeliveryCause (k : Cause) : Prop :=
  k = .unsupportedVersion ∨ k = .boardNotSupported ∨ k = .malformedResponse ∨ k = .counterOverflow

theorem decodeVersion_cause {f : List Byte} {s : State} (hs : s.out.cause = .none) :
    (decodeVersion f s).out.cause = .none ∨ DeliveryCause (decodeVersion f s).out.cause := by
  rcases decodeVersion_cases f s with ⟨k, _, hk, _, h⟩ | ⟨_, _, h⟩ <;> rw [h]
  · rcases hk with rfl | rfl | rfl
    · exact .inr (.inr (.inr (.inl rfl)))
    · exact .inr (.inl rfl)
    · exact .inr (.inr (.inl rfl))
  · exact .inl hs

theorem berDispatch_cause {f : List Byte} {s : State} (hs : s.out.cause = .none) :
    (berDispatch f s).out.cause = .none ∨ DeliveryCause (berDispatch f s).out.cause := by
  rcases berDispatch_effects f s with h | ⟨_, h⟩ | ⟨_, _, _, _, _, _, h⟩ <;> rw [h]
  · exact .inl hs
  · exact .inr (.inr (.inr (.inr rfl)))
  · exact .inl hs

theorem dispatchFrame_cause (c : FrameClass) (f : List Byte) (s : State) :
    (dispatchFrame c f s).out.cause = .none ∨ DeliveryCause (dispatchFrame c f s).out.cause := by
  rw [dispatchFrame_eq]
  split
  · exact berDispatch_cause (track_out_cause _)
  · rw [track_out_cause]
    split
    · exact decodeVersion_cause rfl
    · exact .inl rfl

/-! ## The rows of the table of 60_exceptions.md R282 -/

theorem invalidLength_reportAllowed (b : Byte) (v : Nat) (s : State) :
    ReportAllowed (.rxb b) s (invalidLength v s).out := by
  have hstatus : (invalidLength v s).out.rxStatus = .protocolError := track_out_rxStatus _
  refine ⟨.inr (.inr hstatus), .inr (.inl (track_out_cause _)), fun hlink => ⟨?_, by rw [hstatus]; nofun⟩⟩
  exact awaited_of_track_link (s := raiseError .protocolError .invalidLength v s) rfl hlink

/-- The framer's state `u` at the delivery has the tracker's register as it was before the step. -/
theorem dispatchFrame_reportAllowed (b : Byte) (c : FrameClass) (f : List Byte) {s u : State}
    (hwait : u.ackWait = s.ackWait) : ReportAllowed (.rxb b) s (dispatchFrame c f u).out := by
  obtain ⟨hstatus, _⟩ := dispatchFrame_out c f u
  refine ⟨.inr (.inl hstatus), (dispatchFrame_cause c f u).imp_right fun hk => .inr ⟨hstatus, hk⟩,
    fun hlink => ⟨?_, by rw [hstatus]; nofun⟩⟩
  rw [← hwait]
  exact awaited_of_dispatchFrame_link hlink

theorem execRxb_reportAllowed {b : Byte} {s t : State} (h : execRxb b s = .next t) :
    ReportAllowed (.rxb b) s t.out := by
  rcases execRxb_cases h with ⟨_, _, rfl⟩ | ⟨_, _, _, _, _, rfl⟩ | ⟨v, _, rfl⟩ | ⟨f, g, _, _, _, _, _, _, rfl⟩
  · exact ⟨.inl rfl, .inl rfl, fun hlink => absurd rfl hlink⟩
  · exact ⟨.inl rfl, .inl rfl, fun hlink => absurd rfl hlink⟩
  · exact invalidLength_reportAllowed b v s
  · exact dispatchFrame_reportAllowed b _ f rfl

/-- A report without a frame after the tracker: its status and its cause, and at most `UNRESPONSIVE`. -/
theorem track_report_of_noFrame {r : RxStatus} {k : Cause} {s : State}
    (hout : s.out = { rxStatus := r, cause := k }) :
    (track s).out.rxStatus = r ∧ (track s).out.cause = k ∧
      ((track s).out.link = .none ∨ (track s).out.link = .unresponsive) :=
  ⟨by rw [track_out_rxStatus, hout], by rw [track_out_cause, hout],
    track_link_of_noFrame (by rw [hout]) (by rw [hout])⟩

theorem execRxidle_reportAllowed {d : Byte} {s t : State} (h : execRxidle d s = .next t) :
    ReportAllowed (.rxidle d) s t.out :=
  Host.Outcome.next.inj h ▸ track_report_of_noFrame (s := report { rxStatus := .wouldBlock } s) rfl

theorem execRxerr_reportAllowed {v : Bool} {d : Byte} {s t : State} (h : execRxerr v d s = .next t) :
    ReportAllowed (.rxerr v d) s t.out :=
  Host.Outcome.next.inj h ▸ track_report_of_noFrame (s := raiseError .transportError .transportReadError 0 s) rfl

theorem execCmdSetConfig_reportAllowed {c : Cfg} {s t : State} (h : execCmdSetConfig c s = .next t) :
    ReportAllowed (.cmdSetConfig c) s t.out := by
  rcases execCmdSetConfig_refuses_or_sends c s with ⟨k, hk, he⟩ | ⟨l, he⟩ <;>
    obtain rfl := Host.Outcome.next.inj (he.symm.trans h)
  · exact ⟨rfl, .inr hk, rfl⟩
  · exact ⟨rfl, .inl rfl, rfl⟩

theorem execCmdSetFreq_reportAllowed {f : BitVec 32} {p : Byte} {s t : State} (h : execCmdSetFreq f p s = .next t) :
    ReportAllowed (.cmdSetFreq f p) s t.out := by
  rcases execCmdSetFreq_refuses_or_sends f p s with he | he <;>
    obtain rfl := Host.Outcome.next.inj (he.symm.trans h)
  · exact ⟨rfl, .inr rfl, rfl⟩
  · exact ⟨rfl, .inl rfl, rfl⟩

theorem readOutput_cause (id : CheckerId) (s : State) :
    (readOutput id s).cause = .none ∨ (readOutput id s).cause = .counterOverflow := by
  cases hovf : s.faultOvf with
  | false => exact .inl (by simp [readOutput, hovf])
  | true => exact .inr (by simp [readOutput, hovf])

theorem execBerRead_reportAllowed {n : BitVec 3} {s t : State} (h : execBerRead n s = .next t) :
    ReportAllowed (.berRead n) s t.out := by
  rcases execBerRead_refuses_or_reads n s with he | ⟨id, he⟩ <;>
    obtain rfl := Host.Outcome.next.inj (he.symm.trans h)
  · exact ⟨rfl, .inr (.inl rfl), rfl⟩
  · exact ⟨rfl, (readOutput_cause id s).imp_right .inr, rfl⟩

/-- Settles O47, row by row. The rows not named are those of the sent and the received frames, which are no events. -/
theorem eventsReportOnlyWhatTheTableAllows : Obligations.EventsReportOnlyWhatTheTableAllows := by
  unfold Obligations.EventsReportOnlyWhatTheTableAllows
  intro i s t h
  cases i with
  | rxb => exact execRxb_reportAllowed h
  | rxidle => exact execRxidle_reportAllowed h
  | rxerr => exact execRxerr_reportAllowed h
  | cmdSetConfig => exact execCmdSetConfig_reportAllowed h
  | cmdSetFreq => exact execCmdSetFreq_reportAllowed h
  | berRead => exact execBerRead_reportAllowed h
  | cmdGetVersion | cmdGetStatus | clock | reset | reserved0303 | reserved0505 | reserved0607 | reserved080F
  | reserved101F | reserved203F | reserved407F | reserved80BF | reservedC2C3 | reservedC4C7 | reservedC8CB
  | reservedCCCD | reservedCECE | reservedD0DF | reservedE0FF =>
    obtain rfl := Host.Outcome.next.inj h
    exact ⟨rfl, rfl, rfl⟩
  | _ => exact trivial

end Sys2Proof.Proofs

/-! Proofs of the statements on 70_reset_and_hazards.md: what `RESET` leaves in every register. -/

namespace Sys2Proof.Proofs

open Sys2Proof.Machine Sys2Proof.Safety Sys2Proof.Claims

/-- `RESET` is never refused, and of the state before it only the waiting events remain (70_reset_and_hazards.md R310). -/
theorem exec_reset (s : State) : exec .reset s = .next { State.reset with pending := s.pending } :=
  rfl

theorem bankOf_reset (id : CheckerId) : bankOf State.reset.ber id = {} := by
  cases id <;> rfl

/-- The framer's rows of 10_state.md R40 are its start; the banks' row is `bankOf_reset`. -/
theorem resetTable_reset : ResetTable State.reset := by
  obtain ⟨hstate, hoffset, hlength, hext⟩ := atStart_reset
  exact ⟨hstate, hoffset, hlength, hext, rfl, rfl, rfl, rfl, rfl, rfl, bankOf_reset, rfl⟩

/-- The waiting events are no register of the block. -/
theorem resetTable_withPending {t : State} (h : ResetTable t) (es : List Event) :
    ResetTable { t with pending := es } :=
  h

/-- Settles O7: `RESET` answers the reset state with the waiting events kept, and the table does not read them. -/
theorem resetRestoresEveryRegister : Obligations.ResetRestoresEveryRegister := by
  unfold Obligations.ResetRestoresEveryRegister
  exact ⟨resetTable_reset, rfl, fun s => ⟨_, exec_reset s, resetTable_withPending resetTable_reset s.pending, rfl, rfl⟩⟩

end Sys2Proof.Proofs
